-- ==== Sys2Proof/Word.lean ====
section
/-! DEFINITION. The byte, the widths of the block's counters, and the fixed-capacity byte buffer (R14, R23, R31). -/

namespace Sys2Proof

/-- An unsigned 8-bit value 0..255 (R14). -/
abbrev Byte := BitVec 8

/-- A 9-bit count: TX_LEN and RX_CNT (R24, R32). -/
abbrev Count9 := BitVec 9

/-- A 16-bit number of ticks: Q_TICKS, T, QREM and OREM (R9, R10, R35, R36). -/
abbrev Ticks := BitVec 16

/-- A buffer field of exactly `n` bytes, indexed 0..n-1 (R23, R27, R31). -/
structure Buffer (n : Nat) where
  bytes  : List Byte
  length : bytes.length = n
deriving DecidableEq, Repr

/-- `n` zero bytes. -/
def Buffer.zero (n : Nat) : Buffer n := ⟨List.replicate n 0, List.length_replicate⟩

end Sys2Proof
end

