-- ==== Sys2Proof/Machine/Operands.lean ====
section
/-! DEFINITION. The fixed constants (R6 to R8, R12), the operand forms of the command port (R46), and the reads and
writes of byte sequences and buffers (R14). -/

namespace Sys2Proof.Machine

/-- The sentinel, 0x3B (R6). -/
def sentinel : Byte := 0x3B

/-- HDR: the length field counts source, destination and command (R7). -/
def hdr : Nat := 3

/-- MAX_PAYLOAD (R7). -/
def maxPayload : Nat := 252

/-- MIN_FRAME (R7). -/
def minFrame : Nat := 6

/-- MAX_FRAME, which is also RX_CAP (R8, R12). -/
def maxFrame : Nat := 258

/-- A big-endian two-byte operand: the most significant byte comes first (R46, R71, R72). -/
def be16 (hi lo : Byte) : Ticks := hi ++ lo

/-- The most significant byte of a 16-bit operand (R46). -/
def hiByte (v : Ticks) : Byte := v.extractLsb' 8 8

/-- The least significant byte of a 16-bit operand (R46). -/
def loByte (v : Ticks) : Byte := v.extractLsb' 0 8

/-- `b[i]`, counted from 0 (R14); the rules never read past the end (R43), and there the model reads 0. -/
def byteAt (b : List Byte) (i : Nat) : Byte := b.getD i 0

/-- `b[i..j]`, both ends included, empty when `j < i` (R14). -/
def slice (b : List Byte) (i j : Nat) : List Byte := (b.drop i).take (j + 1 - i)

end Sys2Proof.Machine

namespace Sys2Proof

/-- `BUF[i]` (R16). -/
def Buffer.get {n : Nat} (buf : Buffer n) (i : Nat) : Byte := buf.bytes.getD i 0

/-- `BUF[i] <- v` (R16). Every index the rules compute lies inside the buffer (R43). -/
def Buffer.set {n : Nat} (buf : Buffer n) (i : Nat) (v : Byte) : Buffer n :=
  ⟨buf.bytes.set i v, by rw [List.length_set]; exact buf.length⟩

/-- `BUF[0..k-1]`. -/
def Buffer.take {n : Nat} (buf : Buffer n) (k : Nat) : List Byte := buf.bytes.take k

/-- The buffer that holds `l` from index 0, followed by zero bytes (R23, R27). -/
def Buffer.ofList (n : Nat) (l : List Byte) : Buffer n :=
  ⟨(l ++ List.replicate (n - l.length) 0).take n, by
    rw [List.length_take, List.length_append, List.length_replicate]; omega⟩

end Sys2Proof
end

