-- ==== Sys2Proof/Syntax.lean ====
section
/-! DEFINITION. The operations of the block: one constructor for each row of spec/opcode_table.json (R69, R76). -/

namespace Sys2Proof

/-- An operation: a command-port message (R69 to R75) or an input event (R76, R77). -/
inductive Instr where
  /-- NOP, opcode 0x00 (R88). -/
  | nop
  /-- ENCODE, opcode 0x01: source, destination, command and payload (R70, R83). -/
  | encode (ss dd cc : Byte) (payload : List Byte)
  /-- DECODE, opcode 0x02: the buffer to decode (R71, R93). -/
  | decode (buffer : List Byte)
  /-- RX_ARM, opcode 0x03: the operation deadline in ticks (R72, R112). -/
  | rxArm (deadline : Ticks)
  /-- RESET, opcode 0x04 (R73, R169). -/
  | reset
  /-- RESERVED_CMD: a whole message that is empty or whose opcode is not 0x00..0x04 (R75). -/
  | reservedCmd (message : List Byte)
  /-- RX_BYTE, event tag 0x80: the byte taken from the transport (R117 to R119). -/
  | rxByte (b : Byte)
  /-- TICK, event tag 0x81 (R123). -/
  | tick
  /-- RESERVED_EVENT: an event with a tag 0x82..0xFF, and whatever follows the tag (R77). -/
  | reservedEvent (tag : Byte) (data : List Byte)
deriving DecidableEq, Repr

/-- The operation is an input event (R76), not a message of the command port (R69). -/
def Instr.isEvent : Instr → Bool
  | .nop => false
  | .encode _ _ _ _ => false
  | .decode _ => false
  | .rxArm _ => false
  | .reset => false
  | .reservedCmd _ => false
  | .rxByte _ => true
  | .tick => true
  | .reservedEvent _ _ => true

end Sys2Proof
end

