-- ==== Sys2Proof/WellFormed.lean ====
section
/-! DEFINITION. Which operations can be presented: the operand ranges of the encodings (R69 to R77). -/

namespace Sys2Proof

/-- A payload fits the length operand nn, 0..255 (R70). -/
def fitsPayloadOperand (payload : List Byte) : Bool := decide (payload.length ≤ 255)

/-- A buffer fits the length operand m, 0..65535 (R71). -/
def fitsBufferOperand (buffer : List Byte) : Bool := decide (buffer.length ≤ 65535)

/-- A message that R75 rejects: empty, or with an opcode outside 0x00..0x04. -/
def isReservedMessage : List Byte → Bool
  | [] => true
  | op :: _ => decide (4 < op.toNat)

/-- A reserved event tag, 0x82..0xFF (R77). -/
def isReservedTag (tag : Byte) : Bool := decide (0x82 ≤ tag.toNat)

/-- The operation's operands lie in the ranges its encoding admits. -/
def WellFormed : Instr → Bool
  | .nop => true
  | .encode _ _ _ payload => fitsPayloadOperand payload
  | .decode buffer => fitsBufferOperand buffer
  | .rxArm _ => true
  | .reset => true
  | .reservedCmd message => isReservedMessage message
  | .rxByte _ => true
  | .tick => true
  | .reservedEvent tag _ => isReservedTag tag

end Sys2Proof
end

