-- ==== Sys2Proof/Decode.lean ====
section
/-! DEFINITION. The decoder of command-port messages and input events, total on any bytes, and the encoder (R68 to R77). -/

namespace Sys2Proof

open Machine (be16 hiByte loByte byteAt)

/-- What a presented byte string is. -/
inductive Decoded where
  /-- An operation of the block. -/
  | instr (i : Instr)
  /-- A message with a defined opcode whose length is not the one its layout gives: BadOperand (R74). -/
  | badOperand
  /-- Event bytes that no row of R76 and R77 describes. -/
  | illFormedEvent
deriving DecidableEq, Repr

/-- The operands of a message of one byte, NOP or RESET: none (R73, R74). -/
def decodeNoOperand (i : Instr) : List Byte → Decoded
  | [] => .instr i
  | _ :: _ => .badOperand

/-- The operands of ENCODE: `ss dd cc nn` and exactly `nn` payload bytes (R70, R74). -/
def decodeEncodeOperands : List Byte → Decoded
  | ss :: dd :: cc :: nn :: p => if p.length = nn.toNat then .instr (.encode ss dd cc p) else .badOperand
  | _ => .badOperand

/-- The operands of DECODE: `mh ml` and exactly `m = mh * 256 + ml` buffer bytes (R71, R74). -/
def decodeDecodeOperands : List Byte → Decoded
  | mh :: ml :: b => if b.length = (be16 mh ml).toNat then .instr (.decode b) else .badOperand
  | _ => .badOperand

/-- The operands of RX_ARM: `th tl` (R72, R74). -/
def decodeRxArmOperands : List Byte → Decoded
  | [th, tl] => .instr (.rxArm (be16 th tl))
  | _ => .badOperand

/-- The message of the command port (R68 to R75). An undefined opcode is found before a wrong length (R145). -/
def decodeMessage : List Byte → Decoded
  | [] => .instr (.reservedCmd [])
  | op :: rest =>
    if op = 0x00 then decodeNoOperand .nop rest
    else if op = 0x01 then decodeEncodeOperands rest
    else if op = 0x02 then decodeDecodeOperands rest
    else if op = 0x03 then decodeRxArmOperands rest
    else if op = 0x04 then decodeNoOperand .reset rest
    else .instr (.reservedCmd (op :: rest))

/-- The data of an RX_BYTE event: one byte (R76). -/
def decodeRxByteData : List Byte → Decoded
  | [b] => .instr (.rxByte b)
  | _ => .illFormedEvent

/-- The data of a TICK event: none (R76). -/
def decodeTickData : List Byte → Decoded
  | [] => .instr .tick
  | _ :: _ => .illFormedEvent

/-- An input event, written as a tag byte with its data (R76, R77). -/
def decodeEvent : List Byte → Decoded
  | [] => .illFormedEvent
  | tag :: data =>
    if tag = 0x80 then decodeRxByteData data
    else if tag = 0x81 then decodeTickData data
    else if isReservedTag tag then .instr (.reservedEvent tag data)
    else .illFormedEvent

/-- The bytes of an operation, from the layouts of R70 to R77. -/
def encode : Instr → List Byte
  | .nop => [0x00]
  | .encode ss dd cc p => 0x01 :: ss :: dd :: cc :: BitVec.ofNat 8 p.length :: p
  | .decode b => 0x02 :: hiByte (BitVec.ofNat 16 b.length) :: loByte (BitVec.ofNat 16 b.length) :: b
  | .rxArm t => [0x03, hiByte t, loByte t]
  | .reset => [0x04]
  | .reservedCmd m => m
  | .rxByte b => [0x80, b]
  | .tick => [0x81]
  | .reservedEvent tag data => tag :: data

/-- The operation a line of a trace stands for: one that begins with a tag 0x80..0xFF is an event, any other a message
of the command port (R69, R76). -/
def decodeTraceLine (bytes : List Byte) : Decoded :=
  if 0x80 ≤ (byteAt bytes 0).toNat then decodeEvent bytes else decodeMessage bytes

/-- The length in bytes that the layout of R70 to R76 gives an operation which begins with `bytes`, a byte that is
missing counted as 0; 1 for the reserved rows, which have no layout. -/
def layoutLength (bytes : List Byte) : Nat :=
  if byteAt bytes 0 = 0x01 then 5 + (byteAt bytes 4).toNat
  else if byteAt bytes 0 = 0x02 then 3 + (be16 (byteAt bytes 1) (byteAt bytes 2)).toNat
  else if byteAt bytes 0 = 0x03 then 3
  else if byteAt bytes 0 = 0x80 then 2
  else 1

/-- The first `k` bytes of a number, byte 0 its bits 7..0, as spec/opcode_table.json numbers the bits. -/
def bytesOfNat (w : Nat) : Nat → List Byte
  | 0 => []
  | k + 1 => BitVec.ofNat 8 w :: bytesOfNat (w / 256) k

/-- The bytes of an operation whose first `nbits` bits are `w` and whose other bits are 0. -/
def tableBytes (nbits w : Nat) : List Byte :=
  let given := bytesOfNat w ((nbits + 7) / 8)
  given ++ List.replicate (layoutLength given - given.length) 0

/-- The operation the decoder reads from the bits `w`, numbered as spec/opcode_table.json numbers them. -/
def decodeTableWord (nbits w : Nat) : Option Instr :=
  match decodeTraceLine (tableBytes nbits w) with
  | .instr i => some i
  | .badOperand => none
  | .illFormedEvent => none

end Sys2Proof
end

