-- ==== Sys2Proof/Config.lean ====
section
/-! DEFINITION. The configuration of the block: fixed before the first operation, read-only to every operation (R21). -/

namespace Sys2Proof

/-- DEADLINE_POLICY, 1 bit: what the operation deadline does to a receive that has collected bytes (R11, R21). -/
inductive DeadlinePolicy where
  | fail      -- 0: the receive ends with Timeout
  | finalize  -- 1: the bytes collected so far are finalized
deriving DecidableEq, Repr

/-- The two configuration fields (R21). -/
structure Config where
  /-- Q_TICKS: the quiet interval in ticks, legal values 1..65535 (R9). -/
  qTicks : Ticks
  /-- DEADLINE_POLICY (R11). -/
  policy : DeadlinePolicy
deriving DecidableEq, Repr

/-- The value 0 of Q_TICKS is illegal: a model refuses such a configuration (R21, R175). -/
def Config.legal (c : Config) : Bool := c.qTicks != 0

/-- The spec's defaults: 100 ticks (R9) and Fail (R11). -/
def Config.default : Config := { qTicks := 100, policy := .fail }

end Sys2Proof
end

