-- ==== Sys2Proof/Machine/State.lean ====
section
/-! DEFINITION. The state of the block (R18 to R41), its reset values (R41), and the reasons a step can stop. -/

namespace Sys2Proof.Machine

/-- The status codes the block produces (R141); `Status.code` gives each its number. The reserved codes are never
produced (R141) and have no constructor. -/
inductive Status where
  | ok
  | tooShort
  | badHeader
  | sizeMismatch
  | checksumMismatch
  | payloadTooLarge
  | noData
  | timeout
  | badOperand
  | busy
  | badOp
  | none
deriving DecidableEq, Repr

/-- RX_STATE (R29). The value 3 is never reached and is left out of the type, as R29 permits. -/
inductive RxState where
  | off
  | idle
  | collecting
deriving DecidableEq, Repr

/-- A result record (R17, R27). -/
structure ResultRecord where
  status  : Status
  src     : Byte
  dst     : Byte
  cmd     : Byte
  len     : Byte
  plen    : Byte
  payload : Buffer 252
deriving DecidableEq, Repr

/-- The record with a status and zeros in every other field: what a failed operation leaves, and the reset value
(R28, R41, R101). -/
def ResultRecord.blank (status : Status) : ResultRecord :=
  { status := status, src := 0, dst := 0, cmd := 0, len := 0, plen := 0, payload := Buffer.zero 252 }

/-- What the environment does that is no operation of the block: the ENV lines of R79, and power-on. -/
inductive EnvAction where
  /-- The device puts bytes on the transport, in this order (R153). -/
  | arrive (bytes : List Byte)
  /-- The host discards the bytes unread on the transport (R158). -/
  | flushInput
  /-- Power-on reset (R170). -/
  | powerOn
deriving DecidableEq, Repr

/-- One item of what is presented to the block, in order (R51). -/
inductive Input where
  /-- A message of the command port (R68). -/
  | port (message : List Byte)
  /-- An input event, as a tag byte with its data (R76). -/
  | event (bytes : List Byte)
  /-- An action of the environment. -/
  | env (action : EnvAction)
deriving DecidableEq, Repr

/-- Why a step ends in a fault: never. The block has no traps, and no behaviour of it is stuck (R144, R147), so the type
has no constructor. -/
inductive Fault : Type
deriving DecidableEq, Repr

/-- Why the model refuses a step. -/
inductive Refusal where
  /-- An arm of exec without a meaning; no arm raises it. Safe. -/
  | notModelled (mnemonic : String)
  /-- The configuration has Q_TICKS = 0 (R21, R175); raised by step. Safe: the spec has the model refuse it. -/
  | badConfiguration
  /-- An event tag 0x82..0xFF (R77); raised by the meaning of RESERVED_EVENT. Safe: the spec has the model refuse it. -/
  | reservedEventTag
  /-- An RX_BYTE while RX_STATE is OFF (R121); raised by the meaning of RX_BYTE. Safe: the spec has the model refuse it. -/
  | rxByteWhileOff
  /-- An RX_BYTE whose byte is not the oldest the transport holds (R115); raised by the meaning of RX_BYTE. Safe: no
  environment of the spec presents it. -/
  | notOldestByte
  /-- Event bytes that fit no row of R76 and R77; raised by step. Safe: no environment of the spec presents them. -/
  | illFormedEvent
deriving DecidableEq, Repr

/-- The state: the fields of R22 to R37, the configuration (R21), and the model's own view of the environment. -/
structure State where
  /-- Q_TICKS and DEADLINE_POLICY (R21); no operation writes them. -/
  cfg : Config
  /-- CMD_STATUS (R22). -/
  cmdStatus : Status
  /-- TX_BUF, 258 bytes (R23). -/
  txBuf : Buffer 258
  /-- TX_LEN (R24). -/
  txLen : Count9
  /-- ENC_STATUS (R25). -/
  encStatus : Status
  /-- DEC_RES (R26). -/
  decRes : ResultRecord
  /-- RX_STATE (R29). -/
  rxState : RxState
  /-- RX_BUF, 258 bytes (R31). -/
  rxBuf : Buffer 258
  /-- RX_CNT (R32). -/
  rxCnt : Count9
  /-- RX_OVF (R33). -/
  rxOvf : Bool
  /-- RX_PREP (R34). -/
  rxPrep : Bool
  /-- QREM (R35). -/
  qrem : Ticks
  /-- OREM (R36). -/
  orem : Ticks
  /-- RX_RES (R37). -/
  rxRes : ResultRecord
  /-- The MODEL's own: the bytes the transport holds, oldest first (R115, R153). -/
  transport : List Byte
  /-- The MODEL's own: what is presented to the block, the next item first (R20, R51). -/
  inputs : List Input
deriving DecidableEq, Repr

/-- The block after a power-on reset (R41, R170), beside a configuration, a transport and inputs that no reset touches
(R41, R172). -/
def State.powerOn (cfg : Config) (transport : List Byte) (inputs : List Input) : State :=
  { cfg := cfg
    cmdStatus := .none
    txBuf := Buffer.zero 258
    txLen := 0
    encStatus := .none
    decRes := .blank .none
    rxState := .off
    rxBuf := Buffer.zero 258
    rxCnt := 0
    rxOvf := false
    rxPrep := false
    qrem := 0
    orem := 0
    rxRes := .blank .none
    transport := transport
    inputs := inputs }

/-- The machine right after power-on (R41, R170), with the spec's default configuration (R9, R11), an empty transport
and nothing presented (DESIGN CHOICE: notes/assumptions/1.md, 2.md and 4.md). -/
def State.reset : State := .powerOn .default [] []

end Sys2Proof.Machine
end

