-- ==== Sys2Proof/Machine/Flags.lean ====
section
/-! DEFINITION. The status codes as numbers (R141), RX_STATE as a number (R29), and the two output signals (R38). -/

namespace Sys2Proof.Machine

/-- The 8-bit value a status field holds (R141). -/
def Status.code : Status → Byte
  | .ok => 0x00
  | .tooShort => 0x01
  | .badHeader => 0x02
  | .sizeMismatch => 0x03
  | .checksumMismatch => 0x04
  | .payloadTooLarge => 0x05
  | .noData => 0x06
  | .timeout => 0x07
  | .badOperand => 0x0D
  | .busy => 0x0E
  | .badOp => 0x0F
  | .none => 0xFF

/-- The 2-bit value RX_STATE holds (R29). -/
def RxState.code : RxState → BitVec 2
  | .off => 0
  | .idle => 1
  | .collecting => 2

/-- DEADLINE_POLICY as its bit (R21). -/
def policyBit : DeadlinePolicy → BitVec 1
  | .fail => 0
  | .finalize => 1

/-- RX_READY: the byte input takes a byte (R38, R115). -/
def State.rxReady (s : State) : Bool :=
  match s.rxState with
  | .off => false
  | .idle => true
  | .collecting => true

/-- RX_DONE: a receive has ended and its result is in RX_RES (R38, R149). -/
def State.rxDone (s : State) : Bool := decide (s.rxState = .off) && decide (s.rxRes.status ≠ .none)

end Sys2Proof.Machine
end

