-- ==== Sys2Proof/Machine/Ops.lean ====
section
/-! DEFINITION. The named writes of the state fields (R40), each used by the meanings; what reporting a failure does
(R16, R147), which is this block's substitute for taking an exception; and taking a byte from the transport (R115). -/

namespace Sys2Proof.Machine

/-- `CMD_STATUS <- st` and nothing else: the port's verdict on a message (R22, R40). Rejecting a message is this write
alone (R74, R75, R113, R114). -/
def State.setCmdStatus (s : State) (st : Status) : State := { s with cmdStatus := st }

/-- The three result fields of ENCODE (R40, R83, R84). -/
def State.setTx (s : State) (buf : Buffer 258) (len : Count9) (st : Status) : State :=
  { s with txBuf := buf, txLen := len, encStatus := st }

/-- `DEC_RES <- r` (R93). -/
def State.setDecRes (s : State) (r : ResultRecord) : State := { s with decRes := r }

/-- The fields an accepted RX_ARM writes in the Synchronizer (R112). -/
def State.startReceive (s : State) (deadline : Ticks) : State :=
  { s with
    rxState := .idle
    rxBuf := Buffer.zero 258
    rxCnt := 0
    rxOvf := false
    rxPrep := false
    qrem := 0
    orem := deadline
    rxRes := .blank .none }

/-- `RX_BUF[i] <- b ; RX_CNT <- i + 1` (R117, R118). -/
def State.storeByte (s : State) (i : Count9) (b : Byte) : State :=
  { s with rxBuf := s.rxBuf.set i.toNat b, rxCnt := i + 1 }

/-- `RX_OVF <- 1` (R119). -/
def State.markOverflow (s : State) : State := { s with rxOvf := true }

/-- `QREM <- Q_TICKS`: every byte taken restarts the quiet period (R120). -/
def State.restartQuiet (s : State) : State := { s with qrem := s.cfg.qTicks }

/-- `RX_STATE <- COLLECTING` (R117). -/
def State.startCollecting (s : State) : State := { s with rxState := .collecting }

/-- `QREM <- QREM - 1` (R123). -/
def State.countQuiet (s : State) : State := { s with qrem := s.qrem - 1 }

/-- `OREM <- OREM - 1` (R123). -/
def State.countDeadline (s : State) : State := { s with orem := s.orem - 1 }

/-- `RX_PREP <- p` (R127). -/
def State.setRxPrep (s : State) (p : Bool) : State := { s with rxPrep := p }

/-- A receive ends: `RX_RES <- r ; RX_STATE <- OFF` (R123, R128). -/
def State.endReceive (s : State) (r : ResultRecord) : State := { s with rxRes := r, rxState := .off }

/-- What the transport holds (the model's own field). -/
def State.setTransport (s : State) (bytes : List Byte) : State := { s with transport := bytes }

/-- What is presented from here on (the model's own field). -/
def State.setInputs (s : State) (inputs : List Input) : State := { s with inputs := inputs }

/-- An RX_BYTE event takes exactly one byte, the oldest the transport holds (R115). A byte presented while the transport
holds none arrives and is taken at the same time (R116; notes/assumptions/6.md); a byte that is not the oldest is no
event the environment can present, and there is no state. -/
def State.takeOldest (s : State) (b : Byte) : Option State :=
  match s.transport with
  | [] => some s
  | oldest :: rest => if oldest = b then some (s.setTransport rest) else none

end Sys2Proof.Machine
end

