-- ==== Sys2Proof/Machine/Control.lean ====
section
/-! DEFINITION. RESET (R169) and the two reserved rows of the opcode table (R75, R77). -/

namespace Sys2Proof.Machine

/-- Every state field to its reset value; the configuration and the transport stay, and so does what is presented next
(R41, R169, R172). -/
def resetFields (s : State) : State := State.powerOn s.cfg s.transport s.inputs

/-- RESET (R169): accepted in every state. -/
def execReset (s : State) : Host.Outcome State Fault Refusal := .next ((resetFields s).setCmdStatus .ok)

/-- RESERVED_CMD (R75): the message is rejected, whatever its bytes are, and no other field changes. -/
def execReservedCmd (_message : List Byte) (s : State) : Host.Outcome State Fault Refusal :=
  .next (s.setCmdStatus .badOp)

/-- RESERVED_EVENT (R77): the trace is ill-formed and is refused, not given a meaning. -/
def execReservedEvent (_tag : Byte) (_data : List Byte) (_s : State) : Host.Outcome State Fault Refusal :=
  .refused .reservedEventTag

end Sys2Proof.Machine
end

