-- ==== Sys2Proof/Machine/Delivery.lean ====
section
/-! DEFINITION. What the block takes next: the item presented, the delivery priority of the transport's bytes over the
next TICK (R51, R116), and what the environment's own actions do. -/

namespace Sys2Proof.Machine

/-- What comes next, with the state it is taken from. -/
inductive NextOp where
  /-- Nothing is presented and no byte can be delivered: the block waits (R155). -/
  | wait
  /-- An operation. -/
  | run (i : Instr) (s : State)
  /-- A message of the wrong length (R74). -/
  | reject (s : State)
  /-- An action of the environment. -/
  | environment (a : EnvAction) (s : State)
  /-- Event bytes of no layout (R76). -/
  | illFormed
deriving DecidableEq, Repr

/-- Time would pass, or nothing at all would happen, if the transport's bytes were not taken now: nothing is presented,
or a TICK is. -/
def yieldsToTransport : List Input → Bool
  | [] => true
  | .port _ :: _ => false
  | .event bytes :: _ => decide (decodeEvent bytes = .instr .tick)
  | .env _ :: _ => false

/-- The byte that delivery priority makes the next input: while RX_READY is 1 and the transport holds a byte, the next
input is an RX_BYTE with the oldest byte, never a TICK (R115, R116). -/
def State.priorityByte (s : State) : Option Byte :=
  if s.rxReady && yieldsToTransport s.inputs then s.transport.head? else none

/-- The next item, once delivery priority has nothing to deliver. -/
def presentedOp (s : State) : NextOp :=
  match s.inputs with
  | [] => .wait
  | .port message :: rest =>
    match decodeMessage message with
    | .instr i => .run i (s.setInputs rest)
    | .badOperand => .reject (s.setInputs rest)
    | .illFormedEvent => .illFormed
  | .event bytes :: rest =>
    match decodeEvent bytes with
    | .instr i => .run i (s.setInputs rest)
    | .badOperand => .illFormed
    | .illFormedEvent => .illFormed
  | .env a :: rest => .environment a (s.setInputs rest)

/-- What the block takes next (R51, R116). -/
def nextOp (s : State) : NextOp :=
  match s.priorityByte with
  | some b => .run (.rxByte b) s
  | none => presentedOp s

/-- What an action of the environment changes: bytes join the end of the transport's queue (R153), the host's flush
empties it (R158), and a power-on reset sets every field but the configuration and leaves the transport (R170, R172). -/
def applyEnv (a : EnvAction) (s : State) : State :=
  match a with
  | .arrive bytes => s.setTransport (s.transport ++ bytes)
  | .flushInput => s.setTransport []
  | .powerOn => resetFields s

/-- A line of a trace as the item that is presented: an event if it begins with a tag 0x80..0xFF, else a message of the
command port (R69, R76). -/
def inputOfTraceLine (bytes : List Byte) : Input :=
  if 0x80 ≤ (byteAt bytes 0).toNat then .event bytes else .port bytes

/-- The transport as the environment leaves it when it presents this item at once: an event is a TICK, before which no
byte may wait (R116), or an RX_BYTE, which brings its own byte; a message of the port asks nothing of it. -/
def transportFor (x : Input) (transport : List Byte) : List Byte :=
  match x with
  | .port _ => transport
  | .event _ => []
  | .env _ => transport

end Sys2Proof.Machine
end

