-- ==== Sys2Proof/Machine/Serializer.lean ====
section
/-! DEFINITION. The Serializer: checksum, length encoding and ENCODE, with NOP (40_serializer.md, R81 to R92). -/

namespace Sys2Proof.Machine

/-- `sum(b)`: the integer sum of the bytes, with no wrap (R14). -/
def byteSum (b : List Byte) : Nat := (b.map BitVec.toNat).sum

/-- `neg8(v)`: the two's-complement negation in 8 bits (R14). -/
def neg8 (v : Nat) : Byte := BitVec.ofNat 8 ((256 - v % 256) % 256)

/-- `checksum(b) = neg8(sum(b))` (R64, R81). -/
def checksum (b : List Byte) : Byte := neg8 (byteSum b)

/-- `lenfield(n) = 3 + n`, used for `n <= 252` only (R59, R82). -/
def lenfield (n : Nat) : Byte := BitVec.ofNat 8 (hdr + n)

/-- Offsets 1 to L+1 of a frame, which the checksum covers: length field, source, destination, command, payload
(R56, R64). -/
def coveredBytes (ss dd cc : Byte) (p : List Byte) : List Byte := lenfield p.length :: ss :: dd :: cc :: p

/-- The sequence F that ENCODE's pseudocode computes (R56, R83). -/
def frameBytes (ss dd cc : Byte) (p : List Byte) : List Byte :=
  sentinel :: (coveredBytes ss dd cc p ++ [checksum (coveredBytes ss dd cc p)])

/-- `encode(ss, dd, cc, p)`: the frame, or none where the error is PayloadTooLarge (R83, R84). -/
def encodeFrame (ss dd cc : Byte) (p : List Byte) : Option (List Byte) :=
  if maxPayload < p.length then none else some (frameBytes ss dd cc p)

/-- NOP (R88): acknowledge, and nothing else. -/
def execNop (s : State) : Host.Outcome State Fault Refusal := .next (s.setCmdStatus .ok)

/-- ENCODE (R83, R84). -/
def execEncode (ss dd cc : Byte) (p : List Byte) (s : State) : Host.Outcome State Fault Refusal :=
  match encodeFrame ss dd cc p with
  | none => .next ((s.setCmdStatus .ok).setTx (Buffer.zero 258) 0 .payloadTooLarge)
  | some f => .next ((s.setCmdStatus .ok).setTx (Buffer.ofList 258 f) (BitVec.ofNat 9 f.length) .ok)

end Sys2Proof.Machine
end

