-- ==== Sys2Proof/Machine/Deserializer.lean ====
section
/-! DEFINITION. The Deserializer: the decode function and DECODE (41_deserializer.md, R93 to R110). -/

namespace Sys2Proof.Machine

/-- A decoded frame (R17, R99). -/
structure Frame where
  src     : Byte
  dst     : Byte
  cmd     : Byte
  len     : Byte
  payload : List Byte
deriving DecidableEq, Repr

/-- The four errors of decode (R94). -/
inductive FrameError where
  | tooShort
  | badHeader
  | sizeMismatch
  | checksumMismatch
deriving DecidableEq, Repr

/-- What decode returns: a frame or one of the four errors (R94). -/
inductive DecodeResult where
  | frame (f : Frame)
  | error (e : FrameError)
deriving DecidableEq, Repr

/-- The status code of a decode error (R141). -/
def FrameError.status : FrameError → Status
  | .tooShort => .tooShort
  | .badHeader => .badHeader
  | .sizeMismatch => .sizeMismatch
  | .checksumMismatch => .checksumMismatch

/-- `decode(b)`: the four checks in their order, then the frame (R94 to R100). -/
def decodeFrame (b : List Byte) : DecodeResult :=
  if b.length < minFrame then .error .tooShort
  else if byteAt b 0 ≠ sentinel then .error .badHeader
  else if b.length ≠ (byteAt b 1).toNat + 3 then .error .sizeMismatch
  else if checksum (slice b 1 ((byteAt b 1).toNat + 1)) ≠ byteAt b ((byteAt b 1).toNat + 2) then
    .error .checksumMismatch
  else .frame
    { src := byteAt b 2
      dst := byteAt b 3
      cmd := byteAt b 4
      len := byteAt b 1
      payload := slice b 5 ((byteAt b 1).toNat + 1) }

/-- The result record of a decode: the frame's fields with the payload padded by zeros, or the error and zeros (R93,
R101, R128). -/
def recordOf : DecodeResult → ResultRecord
  | .frame f =>
    { status := .ok
      src := f.src
      dst := f.dst
      cmd := f.cmd
      len := f.len
      plen := f.len - 3
      payload := Buffer.ofList 252 f.payload }
  | .error e => .blank e.status

/-- DECODE (R93). -/
def execDecode (b : List Byte) (s : State) : Host.Outcome State Fault Refusal :=
  .next ((s.setCmdStatus .ok).setDecRes (recordOf (decodeFrame b)))

end Sys2Proof.Machine
end

