-- ==== Sys2Proof/Machine/Synchronizer.lean ====
section
/-! DEFINITION. The Synchronizer: RX_ARM, RX_BYTE, TICK and Finalize (42_synchronizer.md, R111 to R140). -/

namespace Sys2Proof.Machine

/-- RX_ARM (R112): BadOperand for T = 0 in every state (R114), then Busy during a receive (R113, R145), else a receive
starts. -/
def execRxArm (deadline : Ticks) (s : State) : Host.Outcome State Fault Refusal :=
  if deadline = 0 then .next (s.setCmdStatus .badOperand)
  else match s.rxState with
    | .off => .next ((s.setCmdStatus .ok).startReceive deadline)
    | .idle => .next (s.setCmdStatus .busy)
    | .collecting => .next (s.setCmdStatus .busy)

/-- RX_BYTE in IDLE, the byte already taken from the transport (R117). -/
def collectFirst (b : Byte) (s : State) : State := ((s.storeByte 0 b).restartQuiet).startCollecting

/-- RX_BYTE in COLLECTING, the byte already taken from the transport: append while RX_CNT < 258 (R118), else mark the
overflow (R119); either way the quiet period restarts (R120). -/
def collectNext (b : Byte) (s : State) : State :=
  if s.rxCnt.toNat < maxFrame then (s.storeByte s.rxCnt b).restartQuiet else s.markOverflow.restartQuiet

/-- RX_BYTE (R115 to R122). While RX_STATE is OFF the trace is ill-formed (R121); so it is when `b` is not the oldest
byte the transport holds (R115). -/
def execRxByte (b : Byte) (s : State) : Host.Outcome State Fault Refusal :=
  match s.rxState with
  | .off => .refused .rxByteWhileOff
  | .idle =>
    match s.takeOldest b with
    | some s1 => .next (collectFirst b s1)
    | none => .refused .notOldestByte
  | .collecting =>
    match s.takeOldest b with
    | some s1 => .next (collectNext b s1)
    | none => .refused .notOldestByte

/-- The compatibility rule applies: the first collected byte is not the sentinel (R127). -/
def State.missesSentinel (s : State) : Bool := decide (s.rxBuf.get 0 ≠ sentinel)

/-- The collected bytes RX_BUF[0..RX_CNT-1] (R128). -/
def State.collected (s : State) : List Byte := s.rxBuf.take s.rxCnt.toNat

/-- The candidate frame (R127, R128). -/
def State.candidate (s : State) : List Byte :=
  if s.missesSentinel then sentinel :: s.collected else s.collected

/-- What Finalize writes to RX_RES: SizeMismatch after an overflow (R129), else the decoding of the candidate (R128). -/
def State.finalResult (s : State) : ResultRecord :=
  if s.rxOvf then .blank .sizeMismatch else recordOf (decodeFrame s.candidate)

/-- FINALIZE (R128). -/
def finalize (s : State) : State := (s.setRxPrep s.missesSentinel).endReceive s.finalResult

/-- The deadline is reached in COLLECTING before the quiet period ended (R130). -/
def deadlineWhileCollecting (s : State) : State :=
  match s.cfg.policy with
  | .fail => s.endReceive (.blank .timeout)
  | .finalize => finalize s

/-- TICK in IDLE, OREM already counted down (R125). -/
def tickIdle (s : State) : State := if s.orem = 0 then s.endReceive (.blank .noData) else s

/-- TICK in COLLECTING, both timers already counted down; the quiet period is tested first (R126, R130, R131). -/
def tickCollecting (s : State) : State :=
  if s.qrem = 0 then finalize s else if s.orem = 0 then deadlineWhileCollecting s else s

/-- TICK (R123): nothing while OFF (R124). -/
def execTick (s : State) : Host.Outcome State Fault Refusal :=
  match s.rxState with
  | .off => .next s
  | .idle => .next (tickIdle s.countDeadline)
  | .collecting => .next (tickCollecting s.countQuiet.countDeadline)

end Sys2Proof.Machine
end

