-- ==== Sys2Proof/Machine/Dispatch.lean ====
section
/-! DEFINITION. One arm for each row of spec/opcode_table.json. -/

namespace Sys2Proof.Machine

def exec (i : Instr) (s : State) : Host.Outcome State Fault Refusal :=
  match i with
  | .nop => Sys2Proof.Machine.execNop s
  | .encode ss dd cc payload => Sys2Proof.Machine.execEncode ss dd cc payload s
  | .decode buffer => Sys2Proof.Machine.execDecode buffer s
  | .rxArm deadline => Sys2Proof.Machine.execRxArm deadline s
  | .reset => Sys2Proof.Machine.execReset s
  | .reservedCmd message => Sys2Proof.Machine.execReservedCmd message s
  | .rxByte b => Sys2Proof.Machine.execRxByte b s
  | .tick => Sys2Proof.Machine.execTick s
  | .reservedEvent tag data => Sys2Proof.Machine.execReservedEvent tag data s

end Sys2Proof.Machine
end

