-- ==== Sys2Proof/Machine/Step.lean ====
section
/-! DEFINITION. One step: the block takes the next operation and performs it whole (R49, R51). -/

namespace Sys2Proof.Machine

/-- One step. A configuration with Q_TICKS = 0 is refused (R175); a message of the wrong length is rejected with
BadOperand (R74); with nothing to take the block waits, and nothing changes. -/
def step (s : State) : Host.Outcome State Fault Refusal :=
  if s.cfg.legal then
    match nextOp s with
    | .wait => .next s
    | .run i s1 => exec i s1
    | .reject s1 => .next (s1.setCmdStatus .badOperand)
    | .environment a s1 => .next (applyEnv a s1)
    | .illFormed => .refused .illFormedEvent
  else .refused .badConfiguration

/-- The state in which the operation whose bits are `w` is presented next, before everything presented already. For an
event the transport is emptied, so that delivery priority and the order of the transport's bytes do not stand in its
way (notes/assumptions/13.md). -/
def State.withFetchWord (s : State) (nbits w : Nat) : State :=
  let x := inputOfTraceLine (tableBytes nbits w)
  (s.setTransport (transportFor x s.transport)).setInputs (x :: s.inputs)

end Sys2Proof.Machine
end

