-- ==== Sys2Proof/Machine/Communicator.lean ====
section
/-! DEFINITION. The Communicator: the host the block serves, as the environment contract R157 to R168 states it. It is no
part of the block (R5, R18): it acts on the block only through `step`, by the messages and actions it presents. -/

namespace Sys2Proof.Machine

/-- RETRY_COUNT, fixed by the source (R13, R157). -/
def retryCount : Nat := 3

/-- The host's parameters (R13). -/
structure HostParams where
  /-- LOCAL_ADDR, any byte (R13). -/
  localAddr : Byte
  /-- TIMEOUT_MS, in ticks: the operand of the host's RX_ARM (R10, R160). -/
  timeout   : Ticks
  /-- TIMEOUT_MS lies in 1..65535 (R10; 92_eei_decisions.md D38). -/
  inRange   : timeout ≠ 0
deriving DecidableEq, Repr

/-- The host's parameters with the spec's default deadline, 2000 ticks (R10, R13; 92_eei_decisions.md D38). -/
def HostParams.default (localAddr : Byte) : HostParams :=
  { localAddr := localAddr, timeout := 2000, inRange := by decide }

/-- Why an attempt fails (R159 to R161). -/
inductive AttemptError where
  /-- ENCODE gave no frame (R159). -/
  | payloadTooLarge
  /-- Fewer bytes written than encoded (R159). -/
  | shortWrite
  /-- The receive ended with a status other than OK (R160). -/
  | receive (st : Status)
  /-- The frame received answers another request (R161). -/
  | unexpectedResponse
deriving DecidableEq, Repr

/-- What a call returns (R162 to R164). -/
inductive CallResult where
  | response (payload : List Byte)
  | commandFailed (attempts : Nat) (last : AttemptError)
  | written
  | writeError (e : AttemptError)
deriving DecidableEq, Repr

/-- Where an attempt stands: its steps 1 to 4 (R158 to R161), or the call's end. -/
inductive HostPhase where
  | flush
  | encode
  | write
  | arm
  | await
  | finished (r : CallResult)
deriving DecidableEq, Repr

/-- A call of sendCommand (R157) or, with `blind`, of commandBlind (R164). -/
structure HostCall where
  dst     : Byte
  cmd     : Byte
  payload : List Byte
  blind   : Bool
  /-- The number of the attempt in progress, counted from 1. -/
  attempt : Nat
  phase   : HostPhase
deriving DecidableEq, Repr

/-- `sendCommand(destination, command, payload)` begins at step 1 of attempt 1 (R157). -/
def HostCall.sendCommand (dst cmd : Byte) (payload : List Byte) : HostCall :=
  { dst := dst, cmd := cmd, payload := payload, blind := false, attempt := 1, phase := .flush }

/-- `commandBlind(destination, command, payload)` is step 2 alone (R164). -/
def HostCall.commandBlind (dst cmd : Byte) (payload : List Byte) : HostCall :=
  { dst := dst, cmd := cmd, payload := payload, blind := true, attempt := 1, phase := .encode }

/-- A failed attempt is redone from step 1 while attempts are left; else the call fails (R157, R163, R164). -/
def HostCall.fail (c : HostCall) (e : AttemptError) : HostCall :=
  if c.blind then { c with phase := .finished (.writeError e) }
  else if c.attempt < retryCount then { c with attempt := c.attempt + 1, phase := .flush }
  else { c with phase := .finished (.commandFailed c.attempt e) }

/-- The frame received answers the request (R161). -/
def HostCall.validates (c : HostCall) (p : HostParams) (r : ResultRecord) : Bool :=
  decide (r.cmd = c.cmd) && decide (r.src = c.dst) && decide (r.dst = p.localAddr)

/-- After step 2's ENCODE: go on to the write, or fail the attempt. A payload over 255 bytes makes a message the port
rejects (R70, R74); the host counts that as PayloadTooLarge too (notes/assumptions/15.md). -/
def HostCall.afterEncode (c : HostCall) (s : State) : HostCall :=
  if s.cmdStatus = .ok ∧ s.encStatus = .ok then { c with phase := .write } else c.fail .payloadTooLarge

/-- After step 2's bulk write of `count` bytes (R159, R164). -/
def HostCall.afterWrite (c : HostCall) (count : Nat) (s : State) : HostCall :=
  if count < s.txLen.toNat then c.fail .shortWrite
  else if c.blind then { c with phase := .finished .written }
  else { c with phase := .arm }

/-- Steps 3 to 5, once RX_DONE is 1 (R160 to R162). -/
def HostCall.afterReceive (c : HostCall) (p : HostParams) (s : State) : HostCall :=
  if s.rxRes.status ≠ .ok then c.fail (.receive s.rxRes.status)
  else if c.validates p s.rxRes then
    { c with phase := .finished (.response (s.rxRes.payload.take s.rxRes.plen.toNat)) }
  else c.fail .unexpectedResponse

/-- The host presents one item, which the block takes at once; `after` is the host's part that follows. -/
def presentItem (x : Input) (s : State) (after : State → HostCall) : Host.Outcome (HostCall × State) Fault Refusal :=
  match step (s.setInputs (x :: s.inputs)) with
  | .next s1 => .next (after s1, s1)
  | .fault r => .fault r
  | .refused r => .refused r

/-- One turn of the host. `count` is what the transport's bulk write returns, used in step 2 only (R152, R159). -/
def hostTurn (p : HostParams) (count : Nat) (c : HostCall) (s : State) :
    Host.Outcome (HostCall × State) Fault Refusal :=
  match c.phase with
  | .flush =>
    match s.rxState with
    | .off => presentItem (.env .flushInput) s fun _ => { c with phase := .encode }
    | .idle => .next (c, s)
    | .collecting => .next (c, s)
  | .encode => presentItem (.port (Sys2Proof.encode (.encode p.localAddr c.dst c.cmd c.payload))) s c.afterEncode
  | .write => .next (c.afterWrite count s, s)
  | .arm => presentItem (.port (Sys2Proof.encode (.rxArm p.timeout))) s fun _ => { c with phase := .await }
  | .await => if s.rxDone then .next (c.afterReceive p s, s) else .next (c, s)
  | .finished _ => .next (c, s)

/-- Who moves: the host, with the count its write would return, or the block. -/
inductive Turn where
  | host (count : Nat)
  | block
deriving DecidableEq, Repr

/-- One turn of host and block together; which one moves is open (R166). -/
def systemTurn (p : HostParams) (t : Turn) (c : HostCall) (s : State) :
    Host.Outcome (HostCall × State) Fault Refusal :=
  match t with
  | .host count => hostTurn p count c s
  | .block =>
    match step s with
    | .next s1 => .next (c, s1)
    | .fault r => .fault r
    | .refused r => .refused r

end Sys2Proof.Machine
end

