-- ==== Sys2Proof/Safety.lean ====
section
/-! DEFINITION. What every reachable state satisfies (R24 to R37, R85), and runs of operations, in the terms the
statements use. -/

namespace Sys2Proof.Machine

/-- The invariant of a result record (R28). -/
structure ResultRecord.Ok (r : ResultRecord) : Prop where
  success : r.status = .ok →
    3 ≤ r.len.toNat ∧ r.plen.toNat = r.len.toNat - 3 ∧ ∀ i, r.plen.toNat ≤ i → r.payload.get i = 0
  failure : r.status ≠ .ok → r = .blank r.status

/-- The record of a failed operation: its status, and zeros in every other field (R28, R101). -/
structure ResultRecord.FailedWith (r : ResultRecord) (st : Status) : Prop where
  status  : r.status = st
  src     : r.src = 0
  dst     : r.dst = 0
  cmd     : r.cmd = 0
  len     : r.len = 0
  plen    : r.plen = 0
  payload : ∀ i, r.payload.get i = 0

/-- TX_BUF holds a whole frame: what R85 says of the frame an ENCODE produced, and the zeros after it (R23, R24). -/
structure State.HoldsFrame (s : State) : Prop where
  first    : s.txBuf.get 0 = sentinel
  minimum  : 3 ≤ (s.txBuf.get 1).toNat
  size     : s.txLen.toNat = (s.txBuf.get 1).toNat + 3
  check    : s.txBuf.get ((s.txBuf.get 1).toNat + 2) = checksum (slice s.txBuf.bytes 1 ((s.txBuf.get 1).toNat + 1))
  rest     : ∀ i, s.txLen.toNat ≤ i → s.txBuf.get i = 0

/-- TX_BUF holds no frame (R24, R84). -/
structure State.HoldsNoFrame (s : State) : Prop where
  size  : s.txLen = 0
  zeros : s.txBuf = Buffer.zero 258

/-- What holds in each state of the Synchronizer (R32, R34 to R37, R137, and the corner cases of R123). -/
def State.ReceiveOk (s : State) : Prop :=
  match s.rxState with
  | .off =>
    s.rxRes.status = .none ∨ s.rxRes.status = .ok ∨ s.rxRes.status = .tooShort ∨ s.rxRes.status = .sizeMismatch ∨
      s.rxRes.status = .checksumMismatch ∨ s.rxRes.status = .noData ∨ s.rxRes.status = .timeout
  | .idle =>
    s.rxRes.status = .none ∧ s.rxCnt = 0 ∧ s.rxOvf = false ∧ s.rxPrep = false ∧ s.qrem = 0 ∧ s.orem ≠ 0
  | .collecting =>
    s.rxRes.status = .none ∧ s.rxCnt ≠ 0 ∧ s.rxPrep = false ∧ s.qrem ≠ 0 ∧ s.orem ≠ 0

/-- The invariant of the block. -/
structure State.Inv (s : State) : Prop where
  /-- Q_TICKS is legal (R21). -/
  config : s.cfg.qTicks ≠ 0
  /-- The values CMD_STATUS holds (R22). -/
  cmdStatus : s.cmdStatus = .ok ∨ s.cmdStatus = .badOperand ∨ s.cmdStatus = .busy ∨ s.cmdStatus = .badOp ∨
    s.cmdStatus = .none
  /-- The values ENC_STATUS holds, and TX_BUF and TX_LEN with each (R23 to R25, R84, R85). -/
  tx : (s.encStatus = .ok ∧ s.HoldsFrame) ∨
    ((s.encStatus = .payloadTooLarge ∨ s.encStatus = .none) ∧ s.HoldsNoFrame)
  /-- DEC_RES is a result record (R28). -/
  decRecord : s.decRes.Ok
  /-- The values DEC_RES.STATUS holds (R26). -/
  decStatus : s.decRes.status = .none ∨ s.decRes.status = .ok ∨ s.decRes.status = .tooShort ∨
    s.decRes.status = .badHeader ∨ s.decRes.status = .sizeMismatch ∨ s.decRes.status = .checksumMismatch
  /-- RX_RES is a result record (R28). -/
  rxRecord : s.rxRes.Ok
  /-- RX_CNT is at most 258 (R32). -/
  rxCount : s.rxCnt.toNat ≤ 258
  /-- The bytes of RX_BUF past RX_CNT are zero (R31). -/
  rxZeros : ∀ i, s.rxCnt.toNat ≤ i → s.rxBuf.get i = 0
  /-- RX_OVF is 1 only when RX_BUF is full (R33). -/
  overflow : s.rxOvf = true → s.rxCnt.toNat = 258
  /-- QREM is at most Q_TICKS (R35). -/
  quiet : s.qrem.toNat ≤ s.cfg.qTicks.toNat
  /-- What holds in each state of the Synchronizer. -/
  receive : s.ReceiveOk

/-- The operations `ops`, one after the other (R51), without the environment's queues. -/
def execAll : List Instr → State → Host.Outcome State Fault Refusal
  | [], s => .next s
  | i :: rest, s =>
    match exec i s with
    | .next s1 => execAll rest s1
    | .fault r => .fault r
    | .refused r => .refused r

/-- An event of a receive: an RX_BYTE or a TICK (R111). -/
def isReceiveEvent : Instr → Bool
  | .nop => false
  | .encode _ _ _ _ => false
  | .decode _ => false
  | .rxArm _ => false
  | .reset => false
  | .reservedCmd _ => false
  | .rxByte _ => true
  | .tick => true
  | .reservedEvent _ _ => false

/-- The time that passes in `ops`: the number of TICK events (R15). -/
def tickCount (ops : List Instr) : Nat := (ops.filter (· = .tick)).length

/-- `RX_BYTES b0, b1, ...`: the bytes taken one after the other, with no TICK between them (R80). -/
def rxBytes (bytes : List Byte) : List Instr := bytes.map .rxByte

/-- `WAIT k`: k TICK events in a row (R80). -/
def wait (k : Nat) : List Instr := List.replicate k .tick

/-- Bytes taken at a distance: for each pair, so many TICK events and then the byte (R132). -/
def paced (schedule : List (Nat × Byte)) : List Instr := schedule.flatMap fun x => wait x.1 ++ [.rxByte x.2]

/-- The time a schedule of bytes takes: the sum of its gaps (R15). -/
def scheduleTime (schedule : List (Nat × Byte)) : Nat := (schedule.map Prod.fst).sum

/-- Every field holds its value of the table of R41, CMD_STATUS the one given. -/
structure State.AtReset (s : State) (cmd : Status) : Prop where
  cmdStatus : s.cmdStatus = cmd
  txBuf     : ∀ i, s.txBuf.get i = 0
  txLen     : s.txLen = 0
  encStatus : s.encStatus = .none
  decRes    : s.decRes = .blank .none
  rxState   : s.rxState = .off
  rxBuf     : ∀ i, s.rxBuf.get i = 0
  rxCnt     : s.rxCnt = 0
  rxOvf     : s.rxOvf = false
  rxPrep    : s.rxPrep = false
  qrem      : s.qrem = 0
  orem      : s.orem = 0
  rxRes     : s.rxRes = .blank .none

/-- The fields of the Serializer are the same (R40). -/
structure SameSerializer (s t : State) : Prop where
  txBuf     : t.txBuf = s.txBuf
  txLen     : t.txLen = s.txLen
  encStatus : t.encStatus = s.encStatus

/-- The fields of the Synchronizer are the same (R40). -/
structure SameSynchronizer (s t : State) : Prop where
  rxState : t.rxState = s.rxState
  rxBuf   : t.rxBuf = s.rxBuf
  rxCnt   : t.rxCnt = s.rxCnt
  rxOvf   : t.rxOvf = s.rxOvf
  rxPrep  : t.rxPrep = s.rxPrep
  qrem    : t.qrem = s.qrem
  orem    : t.orem = s.orem
  rxRes   : t.rxRes = s.rxRes

/-- The configuration, and the model's own view of what is outside the block, are the same. -/
structure SameSurroundings (s t : State) : Prop where
  cfg       : t.cfg = s.cfg
  transport : t.transport = s.transport
  inputs    : t.inputs = s.inputs

/-- A call's bookkeeping (R157, R163, R164): the attempts are counted from 1 to RETRY_COUNT, a sendCommand that fails
has used them all, and a commandBlind never arms the Synchronizer or returns a response. -/
structure HostCall.Ok (c : HostCall) : Prop where
  first   : 1 ≤ c.attempt
  bound   : c.attempt ≤ retryCount
  failed  : ∀ n e, c.phase = .finished (.commandFailed n e) → n = retryCount ∧ c.blind = false
  blindly : c.blind = true → c.phase ≠ .arm ∧ c.phase ≠ .await ∧ ∀ p, c.phase ≠ .finished (.response p)

/-- The place of a phase in an attempt (R158 to R162); the call's end comes last. -/
def HostPhase.rank : HostPhase → Nat
  | .flush => 0
  | .encode => 1
  | .write => 2
  | .arm => 3
  | .await => 4
  | .finished _ => 5

/-- The call has ended (R162 to R164). -/
def HostCall.ended (c : HostCall) : Bool :=
  match c.phase with
  | .flush => false
  | .encode => false
  | .write => false
  | .arm => false
  | .await => false
  | .finished _ => true

end Sys2Proof.Machine
end

