-- ==== Sys2Proof/Certificates/Slice0/Obligations.lean ====
section
/-! DEFINITION. The statements for the provers. Each says which rule of spec/ it formalises. -/

open Sys2Proof Sys2Proof.Machine

/-! ### Reset and NOP -/

/-- R41: power-on reset and the RESET message leave every field at the table's value and the configuration as it is; by
R171 and R172 RX_DONE is 0 after a RESET and the transport is untouched. -/
def Obligations.ResetLeavesTableValues : Prop :=
  State.reset.AtReset .none ∧
  (∀ (cfg : Config) (held : List Byte) (presented : List Input),
    (State.powerOn cfg held presented).AtReset .none ∧ (State.powerOn cfg held presented).cfg = cfg) ∧
  ∀ s : State, ∃ t, exec .reset s = .next t ∧ t.AtReset .ok ∧ t.rxDone = false ∧ SameSurroundings s t

/-- R173: after a RESET or a power-on reset the block's behaviour does not depend on anything that happened before. -/
def Obligations.ResetForgetsThePast : Prop :=
  ∀ (ops : List Instr) (s t : State), SameSurroundings s t →
    execAll (.reset :: ops) s = execAll (.reset :: ops) t ∧
    execAll ops (applyEnv .powerOn s) = execAll ops (applyEnv .powerOn t)

/-- R88: NOP, the message 00, writes CMD_STATUS and nothing else; with operand bytes it is rejected. -/
def Obligations.NopOnlyAcknowledges : Prop :=
  encode .nop = [0x00] ∧ decodeMessage [0x00] = .instr .nop ∧
  (∀ s : State, ∃ t, exec .nop s = .next t ∧ t.cmdStatus = .ok ∧ t.cmdStatus.code = 0x00 ∧
    SameSerializer s t ∧ t.decRes = s.decRes ∧ SameSynchronizer s t ∧ SameSurroundings s t) ∧
  ∀ (s : State) (x : Byte) (xs : List Byte) (rest : List Input), s.cfg.qTicks ≠ 0 →
    s.inputs = .port (0x00 :: x :: xs) :: rest → ∃ t, step s = .next t ∧ t.cmdStatus = .badOperand

/-! ### Serializer -/

/-- R85, with the layout of R56 and the writes of R83: what an accepted ENCODE leaves in TX_BUF, byte by byte, in TX_LEN
and in the statuses, and that no other field changes. -/
def Obligations.EncodeWritesFrame : Prop :=
  ∀ (ss dd cc : Byte) (p : List Byte) (s : State), p.length ≤ 252 →
    ∃ t, exec (.encode ss dd cc p) s = .next t ∧
      t.cmdStatus = .ok ∧ t.encStatus = .ok ∧ t.txLen.toNat = p.length + 6 ∧
      t.txBuf.get 0 = 0x3B ∧ (t.txBuf.get 1).toNat = p.length + 3 ∧
      t.txBuf.get 2 = ss ∧ t.txBuf.get 3 = dd ∧ t.txBuf.get 4 = cc ∧
      (∀ i, i < p.length → t.txBuf.get (5 + i) = byteAt p i) ∧
      (t.txBuf.get (p.length + 5)).toNat = (256 - byteSum (slice t.txBuf.bytes 1 (p.length + 4)) % 256) % 256 ∧
      (byteSum (slice t.txBuf.bytes 1 (p.length + 5))) % 256 = 0 ∧
      (∀ i, p.length + 6 ≤ i → t.txBuf.get i = 0) ∧
      t.decRes = s.decRes ∧ SameSynchronizer s t ∧ SameSurroundings s t

/-- R84: a payload longer than 252 bytes gives no frame, and the message is still accepted. -/
def Obligations.EncodeRefusesLongPayload : Prop :=
  ∀ (ss dd cc : Byte) (p : List Byte) (s : State), 252 < p.length →
    ∃ t, exec (.encode ss dd cc p) s = .next t ∧
      t.cmdStatus = .ok ∧ t.encStatus = .payloadTooLarge ∧ t.encStatus.code = 0x05 ∧ t.txLen = 0 ∧
      (∀ i, t.txBuf.get i = 0) ∧
      t.decRes = s.decRes ∧ SameSynchronizer s t ∧ SameSurroundings s t

/-- R65: in every frame ENCODE builds or DECODE accepts, the bytes from offset 1 through the checksum sum to 0 mod
256. -/
def Obligations.FrameBytesSumToZero : Prop :=
  (∀ (ss dd cc : Byte) (p f : List Byte), encodeFrame ss dd cc p = some f →
    byteSum (slice f 1 ((byteAt f 1).toNat + 2)) % 256 = 0) ∧
  ∀ (b : List Byte) (f : Frame), decodeFrame b = .frame f →
    byteSum (slice b 1 ((byteAt b 1).toNat + 2)) % 256 = 0

/-- From R89: an 8-bit accumulator that wraps gives the checksum, and the sum of a frame fits 16 bits. -/
def Obligations.WrappingAccumulatorGivesChecksum : Prop :=
  (∀ b : List Byte, checksum b = - b.foldl (· + ·) 0) ∧
  ∀ (ss dd cc : Byte) (p : List Byte), p.length ≤ 252 → byteSum (coveredBytes ss dd cc p) ≤ 65280

/-- R92: the frame determines the operands, by reading its offsets. -/
def Obligations.EncodeFrameInjective : Prop :=
  (∀ (ss dd cc : Byte) (p f : List Byte), encodeFrame ss dd cc p = some f →
    byteAt f 2 = ss ∧ byteAt f 3 = dd ∧ byteAt f 4 = cc ∧ slice f 5 ((byteAt f 1).toNat + 1) = p) ∧
  ∀ (ss dd cc ss' dd' cc' : Byte) (p p' f : List Byte),
    encodeFrame ss dd cc p = some f → encodeFrame ss' dd' cc' p' = some f →
    ss = ss' ∧ dd = dd' ∧ cc = cc' ∧ p = p'

/-! ### Deserializer -/

/-- R95 to R98, in the order of R100: exactly when decode returns each error. -/
def Obligations.DecodeChecksInOrder : Prop :=
  ∀ b : List Byte,
    (decodeFrame b = .error .tooShort ↔ b.length < 6) ∧
    (decodeFrame b = .error .badHeader ↔ 6 ≤ b.length ∧ byteAt b 0 ≠ 0x3B) ∧
    (decodeFrame b = .error .sizeMismatch ↔
      6 ≤ b.length ∧ byteAt b 0 = 0x3B ∧ b.length ≠ (byteAt b 1).toNat + 3) ∧
    (decodeFrame b = .error .checksumMismatch ↔
      6 ≤ b.length ∧ byteAt b 0 = 0x3B ∧ b.length = (byteAt b 1).toNat + 3 ∧
        (256 - byteSum (slice b 1 ((byteAt b 1).toNat + 1)) % 256) % 256 ≠ (byteAt b ((byteAt b 1).toNat + 2)).toNat)

/-- R101, with R93 and R99: DECODE writes the frame's fields, the payload followed by zeros, or the error and zeros. -/
def Obligations.DecodeWritesRecord : Prop :=
  ∀ (b : List Byte) (s : State), ∃ t, exec (.decode b) s = .next t ∧ t.cmdStatus = .ok ∧
    (∀ f, decodeFrame b = .frame f →
      t.decRes.status = .ok ∧ t.decRes.status.code = 0x00 ∧
      t.decRes.src = byteAt b 2 ∧ t.decRes.dst = byteAt b 3 ∧ t.decRes.cmd = byteAt b 4 ∧
      t.decRes.len = byteAt b 1 ∧ t.decRes.plen.toNat + 3 = t.decRes.len.toNat ∧
      t.decRes.payload.take t.decRes.plen.toNat = slice b 5 (t.decRes.len.toNat + 1) ∧
      ∀ i, t.decRes.plen.toNat ≤ i → t.decRes.payload.get i = 0) ∧
    (decodeFrame b = .error .tooShort → t.decRes.FailedWith .tooShort ∧ t.decRes.status.code = 0x01) ∧
    (decodeFrame b = .error .badHeader → t.decRes.FailedWith .badHeader ∧ t.decRes.status.code = 0x02) ∧
    (decodeFrame b = .error .sizeMismatch → t.decRes.FailedWith .sizeMismatch ∧ t.decRes.status.code = 0x03) ∧
    (decodeFrame b = .error .checksumMismatch →
      t.decRes.FailedWith .checksumMismatch ∧ t.decRes.status.code = 0x04) ∧
    SameSerializer s t ∧ SameSynchronizer s t ∧ SameSurroundings s t

/-- R104: the round trip law. -/
def Obligations.DecodeEncodeFrameRoundTrip : Prop :=
  ∀ (ss dd cc : Byte) (p f : List Byte), encodeFrame ss dd cc p = some f →
    ∃ len : Byte, len.toNat = 3 + p.length ∧
      decodeFrame f = .frame { src := ss, dst := dd, cmd := cc, len := len, payload := p }

/-- R105: the converse of the round trip, and so decode accepts exactly the frames encode produces. -/
def Obligations.EncodeDecodeFrameRoundTrip : Prop :=
  (∀ (b : List Byte) (f : Frame), decodeFrame b = .frame f → encodeFrame f.src f.dst f.cmd f.payload = some b) ∧
  ∀ b : List Byte, (∃ f, decodeFrame b = .frame f) ↔ ∃ ss dd cc p, encodeFrame ss dd cc p = some b

/-- R102, R103: which buffers are never accepted, and with which error. -/
def Obligations.AcceptedBufferBounds : Prop :=
  (∀ (b : List Byte) (f : Frame), decodeFrame b = .frame f →
    3 ≤ (byteAt b 1).toNat ∧ f.payload.length ≤ 252 ∧ b.length ≤ 258) ∧
  (∀ b : List Byte, (byteAt b 1).toNat ≤ 2 →
    decodeFrame b = .error
      (if b.length < 6 then .tooShort else if byteAt b 0 = 0x3B then .sizeMismatch else .badHeader)) ∧
  (∀ b : List Byte, 258 < b.length →
    decodeFrame b = .error (if byteAt b 0 = 0x3B then .sizeMismatch else .badHeader)) ∧
  decodeFrame [] = .error .tooShort ∧
  (∀ (b b' : List Byte) (f f' : Frame), decodeFrame b = .frame f → decodeFrame b' = .frame f' →
    decodeFrame (b ++ b') = .error .sizeMismatch)

/-- R107: a change of one byte of a valid frame is detected, and by which check. -/
def Obligations.SingleByteChangeDetected : Prop :=
  ∀ (b : List Byte) (f : Frame) (i : Nat) (v : Byte),
    decodeFrame b = .frame f → i < b.length → v ≠ byteAt b i →
    decodeFrame (b.set i v) =
      .error (if i = 0 then .badHeader else if i = 1 then .sizeMismatch else .checksumMismatch)

/-- From R110: any reordering of the bytes at offsets 2 to L+1 of a valid frame is accepted as a frame. -/
def Obligations.ReorderingNotDetected : Prop :=
  ∀ (b : List Byte) (f : Frame) (q : List Byte), decodeFrame b = .frame f →
    q.Perm (slice b 2 (f.len.toNat + 1)) →
    ∃ f', decodeFrame (b.take 2 ++ q ++ b.drop (f.len.toNat + 2)) = .frame f'

/-! ### RX_ARM -/

/-- From R112: an accepted RX_ARM. -/
def Obligations.RxArmStartsReceive : Prop :=
  ∀ (T : Ticks) (s : State), T ≠ 0 → s.rxState = .off →
    ∃ t, exec (.rxArm T) s = .next t ∧ t.cmdStatus = .ok ∧ t.rxState = .idle ∧ (∀ i, t.rxBuf.get i = 0) ∧
      t.rxCnt = 0 ∧ t.rxOvf = false ∧ t.rxPrep = false ∧ t.qrem = 0 ∧ t.orem = T ∧ t.rxRes = .blank .none ∧
      t.rxReady = true ∧ t.rxDone = false ∧ SameSerializer s t ∧ t.decRes = s.decRes ∧ SameSurroundings s t

/-- R114, and the rejection of R113 in the order of R145: when RX_ARM is rejected, and that nothing but
CMD_STATUS changes. -/
def Obligations.RxArmRejections : Prop :=
  ∀ (T : Ticks) (s : State), T = 0 ∨ s.rxState ≠ .off →
    ∃ t, exec (.rxArm T) s = .next t ∧ t.cmdStatus = (if T = 0 then .badOperand else .busy) ∧
      t.cmdStatus.code = (if T = 0 then 0x0D else 0x0E) ∧
      SameSerializer s t ∧ t.decRes = s.decRes ∧ SameSynchronizer s t ∧ SameSurroundings s t

/-! ### RX_BYTE -/

/-- From R117, and log 6 for an empty transport (the model's choice): the first byte of a receive. -/
def Obligations.FirstByteStartsCollecting : Prop :=
  ∀ (b : Byte) (s : State), s.rxState = .idle → (s.transport = [] ∨ s.transport.head? = some b) →
    ∃ t, exec (.rxByte b) s = .next t ∧ t.rxState = .collecting ∧ t.rxCnt = 1 ∧ t.qrem = s.cfg.qTicks ∧
      t.rxBuf.get 0 = b ∧ (∀ i, i ≠ 0 → t.rxBuf.get i = s.rxBuf.get i) ∧
      t.orem = s.orem ∧ t.rxOvf = s.rxOvf ∧ t.rxPrep = s.rxPrep ∧ t.rxRes = s.rxRes ∧
      t.cmdStatus = s.cmdStatus ∧ SameSerializer s t ∧ t.decRes = s.decRes ∧
      t.cfg = s.cfg ∧ t.inputs = s.inputs ∧ t.transport = s.transport.tail

/-- From R118, R120, and log 6 for an empty transport (the model's choice): a further byte is appended while RX_CNT is
below 258. -/
def Obligations.FurtherByteAppends : Prop :=
  ∀ (b : Byte) (s : State), s.rxState = .collecting → s.rxCnt.toNat < 258 →
    (s.transport = [] ∨ s.transport.head? = some b) →
    ∃ t, exec (.rxByte b) s = .next t ∧ t.rxState = .collecting ∧ t.rxCnt.toNat = s.rxCnt.toNat + 1 ∧
      t.qrem = s.cfg.qTicks ∧ t.rxBuf.get s.rxCnt.toNat = b ∧
      (∀ i, i ≠ s.rxCnt.toNat → t.rxBuf.get i = s.rxBuf.get i) ∧ t.collected = s.collected ++ [b] ∧
      t.orem = s.orem ∧ t.rxOvf = s.rxOvf ∧ t.rxPrep = s.rxPrep ∧ t.rxRes = s.rxRes ∧
      t.cmdStatus = s.cmdStatus ∧ SameSerializer s t ∧ t.decRes = s.decRes ∧
      t.cfg = s.cfg ∧ t.inputs = s.inputs ∧ t.transport = s.transport.tail

/-- From R119, R120, and logs 6 and 10 (the model's choices: an empty transport, RX_CNT above 258, which no run reaches):
with RX_CNT = 258 the byte is not stored and RX_OVF is set. -/
def Obligations.ByteBeyondCapacityOverflows : Prop :=
  ∀ (b : Byte) (s : State), s.rxState = .collecting → 258 ≤ s.rxCnt.toNat →
    (s.transport = [] ∨ s.transport.head? = some b) →
    ∃ t, exec (.rxByte b) s = .next t ∧ t.rxOvf = true ∧ t.qrem = s.cfg.qTicks ∧
      t.rxState = .collecting ∧ t.rxBuf = s.rxBuf ∧ t.rxCnt = s.rxCnt ∧ t.rxPrep = s.rxPrep ∧ t.orem = s.orem ∧
      t.rxRes = s.rxRes ∧ t.cmdStatus = s.cmdStatus ∧ SameSerializer s t ∧ t.decRes = s.decRes ∧
      t.cfg = s.cfg ∧ t.inputs = s.inputs ∧ t.transport = s.transport.tail

/-- R120, R122: every byte taken restarts the quiet period, changes no deadline and no status, and never ends a receive;
only TICK and RESET do. -/
def Obligations.ByteTakenNeverEndsReceive : Prop :=
  (∀ (b : Byte) (s t : State), exec (.rxByte b) s = .next t →
    t.qrem = s.cfg.qTicks ∧ t.orem = s.orem ∧ t.cmdStatus = s.cmdStatus ∧ t.rxRes = s.rxRes ∧
      t.rxState = .collecting) ∧
  ∀ (i : Instr) (s t : State), s.rxState ≠ .off → exec i s = .next t → t.rxState = .off → i = .tick ∨ i = .reset

/-- From R121, and log 6 for the second clause (the model's choice): which RX_BYTE events are refused. -/
def Obligations.RxByteRefusals : Prop :=
  ∀ (b : Byte) (s : State),
    (s.rxState = .off → exec (.rxByte b) s = .refused .rxByteWhileOff) ∧
    (∀ o rest, s.rxState ≠ .off → s.transport = o :: rest → o ≠ b →
      exec (.rxByte b) s = .refused .notOldestByte)

/-! ### TICK -/

/-- R124: TICK while OFF changes nothing. -/
def Obligations.TickWhileOffChangesNothing : Prop :=
  ∀ s : State, s.rxState = .off → exec .tick s = .next s

/-- From R125: TICK in IDLE counts OREM down, and ends the receive with NoData when it reaches 0. -/
def Obligations.TickInIdleCountsDeadline : Prop :=
  ∀ s : State, s.rxState = .idle → s.orem ≠ 0 →
    ∃ t, exec .tick s = .next t ∧ t.orem.toNat + 1 = s.orem.toNat ∧
      (s.orem.toNat = 1 → t.rxState = .off ∧ t.rxRes = .blank .noData ∧ t.rxRes.status.code = 0x06) ∧
      (s.orem.toNat ≠ 1 → t.rxState = .idle ∧ t.rxRes = s.rxRes) ∧
      t.qrem = s.qrem ∧ t.rxBuf = s.rxBuf ∧ t.rxCnt = s.rxCnt ∧ t.rxOvf = s.rxOvf ∧ t.rxPrep = s.rxPrep ∧
      t.cmdStatus = s.cmdStatus ∧ SameSerializer s t ∧ t.decRes = s.decRes ∧ SameSurroundings s t

/-- From R126: TICK in COLLECTING, neither timer at its last tick. -/
def Obligations.TickInCollectingCountsBoth : Prop :=
  ∀ s : State, s.rxState = .collecting → 1 < s.qrem.toNat → 1 < s.orem.toNat →
    ∃ t, exec .tick s = .next t ∧ t.qrem.toNat + 1 = s.qrem.toNat ∧ t.orem.toNat + 1 = s.orem.toNat ∧
      t.rxState = .collecting ∧ t.rxRes = s.rxRes ∧
      t.rxBuf = s.rxBuf ∧ t.rxCnt = s.rxCnt ∧ t.rxOvf = s.rxOvf ∧ t.rxPrep = s.rxPrep ∧
      t.cmdStatus = s.cmdStatus ∧ SameSerializer s t ∧ t.decRes = s.decRes ∧ SameSurroundings s t

/-- R127, with R128 and R131: the TICK that ends the quiet period finalizes, whatever OREM is; and so does, with policy
Finalize, the TICK that reaches the deadline first (R130). The compatibility rule forms the candidate. -/
def Obligations.TickFinalizes : Prop :=
  ∀ s : State, s.rxState = .collecting →
    (s.qrem = 1 ∨ (1 < s.qrem.toNat ∧ s.orem = 1 ∧ s.cfg.policy = .finalize)) →
    ∃ t, exec .tick s = .next t ∧ t.rxState = .off ∧
      (s.rxBuf.get 0 = 0x3B → t.rxPrep = false ∧
        (s.rxOvf = false → t.rxRes = recordOf (decodeFrame (s.rxBuf.take s.rxCnt.toNat)))) ∧
      (s.rxBuf.get 0 ≠ 0x3B → t.rxPrep = true ∧
        (s.rxOvf = false → t.rxRes = recordOf (decodeFrame (0x3B :: s.rxBuf.take s.rxCnt.toNat)))) ∧
      (s.rxOvf = true → t.rxRes = .blank .sizeMismatch) ∧
      t.qrem = s.qrem - 1 ∧ t.orem = s.orem - 1 ∧ t.rxBuf = s.rxBuf ∧ t.rxCnt = s.rxCnt ∧ t.rxOvf = s.rxOvf ∧
      t.cmdStatus = s.cmdStatus ∧ SameSerializer s t ∧ t.decRes = s.decRes ∧ SameSurroundings s t

/-- From R130 with policy Fail: the deadline before the end of the quiet period is a Timeout, and nothing is decoded. -/
def Obligations.TickTimesOut : Prop :=
  ∀ s : State, s.rxState = .collecting → 1 < s.qrem.toNat → s.orem = 1 → s.cfg.policy = .fail →
    ∃ t, exec .tick s = .next t ∧ t.rxState = .off ∧ t.rxRes = .blank .timeout ∧ t.rxRes.status.code = 0x07 ∧
      t.orem = 0 ∧
      t.qrem.toNat + 1 = s.qrem.toNat ∧ t.rxPrep = s.rxPrep ∧
      t.rxBuf = s.rxBuf ∧ t.rxCnt = s.rxCnt ∧ t.rxOvf = s.rxOvf ∧
      t.cmdStatus = s.cmdStatus ∧ SameSerializer s t ∧ t.decRes = s.decRes ∧ SameSurroundings s t

/-- R129: what an overflow reports is what decode gives for the unbounded buffer the source describes. -/
def Obligations.OverflowMatchesUnboundedBuffer : Prop :=
  ∀ (s : State) (more : List Byte), s.rxCnt.toNat = 258 → more ≠ [] →
    decodeFrame (s.candidate ++ more) = .error .sizeMismatch ∧
    (s.rxOvf = true → (finalize s).rxRes.status = .sizeMismatch ∧
      (finalize s).rxRes = recordOf (decodeFrame (s.candidate ++ more)))

/-- R134: the candidate starts with the sentinel, so a receive never reports BadHeader; and a receive that finalizes
reports TooShort exactly when its candidate has fewer than 6 bytes. -/
def Obligations.ReceiveErrorsFromCandidate : Prop :=
  ∀ s t : State, s.rxState ≠ .off → exec .tick s = .next t → t.rxState = .off →
    t.rxRes.status ≠ .badHeader ∧
    (s.rxCnt ≠ 0 → byteAt s.candidate 0 = 0x3B) ∧
    (s.rxState = .collecting → t.rxRes.status ≠ .timeout →
      (t.rxRes.status = .tooShort ↔ t.rxOvf = false ∧ t.rxCnt.toNat + (if t.rxPrep then 1 else 0) < 6))

/-- From R38 and R149: RX_DONE is 1 from the TICK that ends a receive until the next accepted RX_ARM or RESET. -/
def Obligations.DoneFromEndUntilRearmed : Prop :=
  (∀ s t : State, s.rxState ≠ .off → exec .tick s = .next t → t.rxState = .off → t.rxDone = true) ∧
  ∀ (i : Instr) (s t : State), s.rxDone = true → exec i s = .next t → t.rxDone = false →
    i = .reset ∨ ∃ T, T ≠ 0 ∧ i = .rxArm T

/-! ### Receives as a whole -/

/-- From R125 over a whole receive: with no byte taken it ends exactly T ticks after RX_ARM, with NoData. -/
def Obligations.NoDataExactlyAtDeadline : Prop :=
  ∀ (T : Ticks) (s : State) (k : Nat), T ≠ 0 → s.rxState = .off → k ≤ T.toNat →
    ∃ t, execAll (.rxArm T :: wait k) s = .next t ∧ t.orem.toNat + k = T.toNat ∧
      (k < T.toNat → t.rxState = .idle ∧ t.rxDone = false) ∧
      (k = T.toNat → t.rxDone = true ∧ t.rxRes = .blank .noData)

/-- From R132: with no byte for fewer than Q_TICKS ticks the receive goes on with the same bytes; with none for Q_TICKS
it is finalized at that tick, and later ticks change nothing. -/
def Obligations.QuietGapLaw : Prop :=
  ∀ (s : State) (k : Nat), s.rxState = .collecting → s.qrem = s.cfg.qTicks → s.cfg.qTicks ≠ 0 →
    (k < s.cfg.qTicks.toNat → k < s.orem.toNat →
      ∃ t, execAll (wait k) s = .next t ∧ t.rxState = .collecting ∧ t.collected = s.collected ∧
        t.rxOvf = s.rxOvf ∧ t.orem.toNat + k = s.orem.toNat) ∧
    (s.cfg.qTicks.toNat ≤ k → s.cfg.qTicks.toNat ≤ s.orem.toNat →
      ∃ t, execAll (wait k) s = .next t ∧ t.rxState = .off ∧ t.rxRes = s.finalResult ∧
        t.rxCnt = s.rxCnt ∧ t.orem.toNat + s.cfg.qTicks.toNat = s.orem.toNat)

/-- From R133: a receive still in progress after some events has seen fewer ticks than its deadline, and its OREM says
how many are left; so it ends within T ticks of RX_ARM. Port messages presented during the receive are left out. -/
def Obligations.ReceiveEndsWithinDeadline : Prop :=
  ∀ (T : Ticks) (ops : List Instr) (s t : State), s.rxState = .off → T ≠ 0 →
    (∀ i ∈ ops, isReceiveEvent i = true) → execAll (.rxArm T :: ops) s = .next t → t.rxState ≠ .off →
    tickCount ops < T.toNat ∧ t.orem.toNat + tickCount ops = T.toNat

/-- From R132 and R133: a frame whose bytes are taken with gaps below Q_TICKS, its last early enough, is received
whole, and its receive ends Q_TICKS ticks after its last byte. RX_BYTE with an empty transport is the model's
choice (log 6). -/
def Obligations.PacedFrameIsReceived : Prop :=
  ∀ (T : Ticks) (s : State) (ss dd cc : Byte) (p f : List Byte) (schedule : List (Nat × Byte)),
    s.rxState = .off → s.transport = [] → s.cfg.qTicks ≠ 0 → encodeFrame ss dd cc p = some f →
    schedule.map Prod.snd = f → (∀ x ∈ schedule.tail, x.1 < s.cfg.qTicks.toNat) →
    scheduleTime schedule + s.cfg.qTicks.toNat ≤ T.toNat →
    ∃ t, execAll (.rxArm T :: paced schedule ++ wait s.cfg.qTicks.toNat) s = .next t ∧
      t.rxDone = true ∧ t.rxPrep = false ∧ t.rxRes.status = .ok ∧ t.rxRes.src = ss ∧ t.rxRes.dst = dd ∧
      t.rxRes.cmd = cc ∧ t.rxRes.plen.toNat = p.length ∧ t.rxRes.payload.take t.rxRes.plen.toNat = p ∧
      t.orem.toNat + scheduleTime schedule + s.cfg.qTicks.toNat = T.toNat

/-- From R127: the same for a frame that lost its sentinel on the line, unless its length field is itself the sentinel's
value (R136). RX_BYTE with an empty transport is the model's choice (log 6). -/
def Obligations.DroppedSentinelIsRecovered : Prop :=
  ∀ (T : Ticks) (s : State) (ss dd cc : Byte) (p f : List Byte) (schedule : List (Nat × Byte)),
    s.rxState = .off → s.transport = [] → s.cfg.qTicks ≠ 0 → encodeFrame ss dd cc p = some f → p.length ≠ 56 →
    schedule.map Prod.snd = f.tail → (∀ x ∈ schedule.tail, x.1 < s.cfg.qTicks.toNat) →
    scheduleTime schedule + s.cfg.qTicks.toNat ≤ T.toNat →
    ∃ t, execAll (.rxArm T :: paced schedule ++ wait s.cfg.qTicks.toNat) s = .next t ∧
      t.rxDone = true ∧ t.rxPrep = true ∧ t.rxRes.status = .ok ∧ t.rxRes.src = ss ∧ t.rxRes.dst = dd ∧
      t.rxRes.cmd = cc ∧ t.rxRes.plen.toNat = p.length ∧ t.rxRes.payload.take t.rxRes.plen.toNat = p

/-- From R181: with T < Q_TICKS and policy Fail, every receive that takes a byte ends in Timeout. Port messages
presented during the receive are left out. -/
def Obligations.ShortDeadlineTimesOut : Prop :=
  ∀ (T : Ticks) (ops : List Instr) (s t : State), s.rxState = .off → T ≠ 0 → T.toNat < s.cfg.qTicks.toNat →
    s.cfg.policy = .fail → (∀ i ∈ ops, isReceiveEvent i = true) →
    execAll (.rxArm T :: ops) s = .next t → t.rxState = .off → t.rxCnt ≠ 0 → t.rxRes = .blank .timeout

/-- R139: an ended receive's result and bytes stay until the next accepted RX_ARM or a RESET. -/
def Obligations.ResultStaysUntilRearmed : Prop :=
  ∀ (ops : List Instr) (s t : State), s.rxState = .off → execAll ops s = .next t →
    (∀ i ∈ ops, i ≠ .reset ∧ ∀ T, i = .rxArm T → T = 0) → SameSynchronizer s t

/-! ### The command port and the events -/

/-- R75: which messages are rejected with BadOp, and that nothing but CMD_STATUS changes. -/
def Obligations.UndefinedOpcodeRejected : Prop :=
  ∀ (s : State) (m : List Byte) (rest : List Input), s.cfg.qTicks ≠ 0 → s.inputs = .port m :: rest →
    (m = [] ∨ 5 ≤ (byteAt m 0).toNat) →
    ∃ t, step s = .next t ∧ t.cmdStatus = .badOp ∧ t.cmdStatus.code = 0x0F ∧ t.inputs = rest ∧ t.cfg = s.cfg ∧
      t.transport = s.transport ∧
      SameSerializer s t ∧ t.decRes = s.decRes ∧ SameSynchronizer s t

/-- From R75, for the operation itself: RESERVED_CMD is rejected whatever its bytes are. -/
def Obligations.ReservedCommandOnlyRejects : Prop :=
  ∀ (m : List Byte) (s : State), ∃ t, exec (.reservedCmd m) s = .next t ∧ t.cmdStatus = .badOp ∧
    SameSerializer s t ∧ t.decRes = s.decRes ∧ SameSynchronizer s t ∧ SameSurroundings s t

/-- R74, with the layouts of R70 to R73: a message of a defined opcode and the wrong length is rejected with
BadOperand, and nothing but CMD_STATUS changes. -/
def Obligations.WrongLengthRejected : Prop :=
  ∀ (s : State) (m : List Byte) (rest : List Input), s.cfg.qTicks ≠ 0 → s.inputs = .port m :: rest → m ≠ [] →
    ((byteAt m 0 = 0x00 ∧ m.length ≠ 1) ∨
     (byteAt m 0 = 0x01 ∧ (m.length < 5 ∨ m.length ≠ 5 + (byteAt m 4).toNat)) ∨
     (byteAt m 0 = 0x02 ∧ (m.length < 3 ∨ m.length ≠ 3 + ((byteAt m 1).toNat * 256 + (byteAt m 2).toNat))) ∨
     (byteAt m 0 = 0x03 ∧ m.length ≠ 3) ∨
     (byteAt m 0 = 0x04 ∧ m.length ≠ 1)) →
    ∃ t, step s = .next t ∧ t.cmdStatus = .badOperand ∧ t.cmdStatus.code = 0x0D ∧ t.inputs = rest ∧
      t.cfg = s.cfg ∧ t.transport = s.transport ∧ SameSerializer s t ∧ t.decRes = s.decRes ∧ SameSynchronizer s t

/-- From R77, and log 7 for when (the model's choice): a reserved event tag, and an RX_BYTE while RX_READY is 0, are
refused. -/
def Obligations.IllFormedTraceRefused : Prop :=
  ∀ (s : State) (rest : List Input), s.cfg.qTicks ≠ 0 →
    (∀ tag data, s.inputs = .event (tag :: data) :: rest → 0x82 ≤ tag.toNat →
      step s = .refused .reservedEventTag) ∧
    (∀ b, s.inputs = .event [0x80, b] :: rest → s.rxReady = false → step s = .refused .rxByteWhileOff)

/-- From R77, for the operation itself: RESERVED_EVENT is refused in every state. -/
def Obligations.ReservedEventRefused : Prop :=
  ∀ (tag : Byte) (data : List Byte) (s : State), exec (.reservedEvent tag data) s = .refused .reservedEventTag

/-- From R144: no status and no state stops the block: every message, and every TICK, is taken in every state. -/
def Obligations.EveryMessageAccepted : Prop :=
  ∀ (i : Instr) (s : State), i.isEvent = false ∨ i = .tick → ∃ t, exec i s = .next t

/-- From R50: every message but RX_ARM is idempotent, and a second RX_ARM is rejected as Busy. -/
def Obligations.MessagesAreIdempotent : Prop :=
  (∀ (i : Instr) (s t : State), i.isEvent = false → (∀ T, i ≠ .rxArm T) → exec i s = .next t → exec i t = .next t) ∧
  (∀ (T T' : Ticks) (s t : State), T ≠ 0 → T' ≠ 0 → s.rxState = .off → exec (.rxArm T) s = .next t →
    exec (.rxArm T') t = .next (t.setCmdStatus .busy))

/-- From R40: which operations may write which field. -/
def Obligations.OnlyListedWriters : Prop :=
  ∀ (i : Instr) (s t : State), exec i s = .next t →
    (t.cmdStatus ≠ s.cmdStatus → i.isEvent = false) ∧
    (¬ SameSerializer s t → i = .reset ∨ ∃ ss dd cc p, i = .encode ss dd cc p) ∧
    (t.decRes ≠ s.decRes → i = .reset ∨ ∃ b, i = .decode b) ∧
    (t.rxState ≠ s.rxState → i = .reset ∨ (∃ T, i = .rxArm T) ∨ ((∃ b, i = .rxByte b) ∧ s.rxState = .idle) ∨
      (i = .tick ∧ t.rxState = .off)) ∧
    ((t.rxBuf ≠ s.rxBuf ∨ t.rxCnt ≠ s.rxCnt ∨ t.rxOvf ≠ s.rxOvf) →
      i = .reset ∨ (∃ T, i = .rxArm T) ∨ ∃ b, i = .rxByte b) ∧
    (t.rxPrep ≠ s.rxPrep → i = .reset ∨ (∃ T, i = .rxArm T) ∨
      (i = .tick ∧ s.rxState = .collecting ∧ t.rxState = .off)) ∧
    (t.qrem ≠ s.qrem → i = .reset ∨ (∃ T, i = .rxArm T) ∨ (∃ b, i = .rxByte b) ∨
      (i = .tick ∧ s.rxState = .collecting)) ∧
    (t.orem ≠ s.orem → i = .reset ∨ (∃ T, i = .rxArm T) ∨ (i = .tick ∧ s.rxState ≠ .off)) ∧
    (t.rxRes ≠ s.rxRes → i = .reset ∨ (∃ T, i = .rxArm T) ∨ (i = .tick ∧ t.rxState = .off)) ∧
    (t.transport ≠ s.transport → ∃ b, i = .rxByte b) ∧
    t.cfg = s.cfg ∧ t.inputs = s.inputs

/-- From R184: ENCODE and DECODE commute with the events of a receive. -/
def Obligations.CodecCommutesWithReceive : Prop :=
  ∀ (i e : Instr) (s t u : State),
    ((∃ ss dd cc p, i = .encode ss dd cc p) ∨ ∃ b, i = .decode b) → isReceiveEvent e = true →
    exec i s = .next t → exec e t = .next u →
    ∃ v, exec e s = .next v ∧ exec i v = .next u

/-! ### Decoding and stepping -/

/-- Words written out from the layouts of R70 to R77 decode to the operations they stand for. -/
def Obligations.WordsFromLayoutsDecode : Prop :=
  decodeMessage [0x00] = .instr .nop ∧
  decodeMessage [0x01, 0x20, 0x12, 0x02, 0x03, 0x00, 0x12, 0x34] = .instr (.encode 0x20 0x12 0x02 [0x00, 0x12, 0x34]) ∧
  decodeMessage [0x02, 0x00, 0x02, 0x3B, 0x05] = .instr (.decode [0x3B, 0x05]) ∧
  decodeMessage [0x03, 0x07, 0xD0] = .instr (.rxArm 2000) ∧
  decodeMessage [0x04] = .instr .reset ∧
  decodeMessage [0x05] = .instr (.reservedCmd [0x05]) ∧
  decodeEvent [0x80, 0x3B] = .instr (.rxByte 0x3B) ∧
  decodeEvent [0x81] = .instr .tick ∧
  decodeEvent [0x82] = .instr (.reservedEvent 0x82 [])

/-- Decode and encode agree, for every operation with operands its encoding admits. -/
def Obligations.DecodeEncodeInstr : Prop :=
  ∀ i : Instr, WellFormed i = true →
    (if i.isEvent then decodeEvent (encode i) else decodeMessage (encode i)) = .instr i

/-- Encode and decode agree: what is decoded as an operation is its encoding, and its operands are in range. -/
def Obligations.EncodeDecodeInstr : Prop :=
  ∀ (bytes : List Byte) (i : Instr),
    (decodeMessage bytes = .instr i → encode i = bytes ∧ WellFormed i = true ∧ i.isEvent = false) ∧
    (decodeEvent bytes = .instr i → encode i = bytes ∧ WellFormed i = true ∧ i.isEvent = true)

/-- A step runs the operation presented first, unless the transport's bytes have priority; `exec` sees the state with
that item taken from the inputs. -/
def Obligations.StepRunsPresentedOperation : Prop :=
  ∀ (s : State) (x : Input) (rest : List Input) (i : Instr), s.cfg.qTicks ≠ 0 → s.inputs = x :: rest →
    s.priorityByte = none →
    ((∃ m, x = .port m ∧ decodeMessage m = .instr i) ∨ (∃ e, x = .event e ∧ decodeEvent e = .instr i)) →
    step s = exec i { s with inputs := rest }

/-- A word of the opcode table placed by withFetchWord is run by the very next step. -/
def Obligations.FetchWordRunsNext : Prop :=
  ∀ (s : State) (nbits w : Nat) (i : Instr), s.cfg.qTicks ≠ 0 → decodeTableWord nbits w = some i →
    step (s.withFetchWord nbits w) = exec i { s with transport := if i.isEvent then [] else s.transport }

/-- From R116: with RX_READY 1 and a byte in the transport, the byte is taken and the TICK presented waits. That the
block takes the byte of itself is the model's reading (log 5). -/
def Obligations.DeliveryPriority : Prop :=
  ∀ (s : State) (b : Byte) (bs : List Byte) (rest : List Input), s.cfg.qTicks ≠ 0 → s.rxReady = true →
    s.transport = b :: bs → (s.inputs = [] ∨ s.inputs = .event [0x81] :: rest) →
    ∃ t, step s = .next t ∧ exec (.rxByte b) s = .next t ∧ t.transport = bs ∧ t.inputs = s.inputs ∧
      t.orem = s.orem ∧ t.rxState = .collecting

/-- From R116: every byte the transport holds is taken before the next TICK, with no time passing. That the
steps take these bytes of themselves is the model's reading (log 5). -/
def Obligations.TransportDrainsBeforeTick : Prop :=
  ∀ (s : State) (rest : List Input), s.cfg.qTicks ≠ 0 → s.rxReady = true → s.inputs = .event [0x81] :: rest →
    ∃ t, Sys2Proof.core.run s.transport.length s = .next t ∧ t.transport = [] ∧ t.inputs = s.inputs ∧
      t.orem = s.orem ∧ t.rxReady = true

/-- From R153, R158, R170 and R172: what the environment's actions do, and that they write nothing else. -/
def Obligations.EnvironmentActions : Prop :=
  ∀ (s : State) (rest : List Input) (a : EnvAction), s.cfg.qTicks ≠ 0 → s.inputs = .env a :: rest →
    ∃ t, step s = .next t ∧ t.inputs = rest ∧ t.cfg = s.cfg ∧
      (∀ bytes, a = .arrive bytes → t = { s with transport := s.transport ++ bytes, inputs := rest }) ∧
      (a = .flushInput → t = { s with transport := [], inputs := rest }) ∧
      (a = .powerOn → t.AtReset .none ∧ t.transport = s.transport)

/-- From R21, R175: a configuration with Q_TICKS = 0 is refused, and no step writes the configuration. -/
def Obligations.ConfigurationFixed : Prop :=
  (∀ s : State, s.cfg.qTicks = 0 → step s = .refused .badConfiguration) ∧
  (∀ s t : State, step s = .next t → t.cfg = s.cfg ∧ t.cfg.qTicks ≠ 0)

/-! ### The invariant -/

/-- Every step keeps the invariant: result records are whole (R28), TX_BUF holds a frame exactly when ENC_STATUS is OK
(R24, R85), the receive's fields fit its state (R31 to R37), and every status field holds one of its values. -/
def Obligations.StepKeepsInvariant : Prop :=
  ∀ s t : State, s.Inv → step s = .next t → t.Inv

/-- The power-on state satisfies the invariant. -/
def Obligations.ResetSatisfiesInvariant : Prop := State.reset.Inv

/-! ### The host -/

/-- From R157, R163 to R165: a call makes at most RETRY_COUNT attempts and fails only after all of them; a commandBlind
never waits. Every return to step 1 counts one attempt, no other turn changes the count, and within an attempt no step
is done twice. -/
def Obligations.HostAttemptsBounded : Prop :=
  (∀ dst cmd payload, (HostCall.sendCommand dst cmd payload).Ok ∧ (HostCall.commandBlind dst cmd payload).Ok) ∧
  ∀ (p : HostParams) (u : Turn) (c c' : HostCall) (s s' : State), c.Ok → systemTurn p u c s = .next (c', s') →
    c'.Ok ∧
    (c'.phase = .flush → c.phase ≠ .flush → c'.attempt = c.attempt + 1) ∧
    (c'.phase ≠ .flush ∨ c.phase = .flush → c'.attempt = c.attempt) ∧
    (c'.attempt = c.attempt → c' = c ∨ c.phase.rank < c'.phase.rank)

/-- From R10, R13 and R160: the host arms the receive with TIMEOUT_MS, 2000 ticks unless given another value. That its
message is presented in front of what is presented already is the model's choice (log 15). -/
def Obligations.HostArmsWithTimeout : Prop :=
  (∀ a : Byte, (HostParams.default a).localAddr = a ∧ (HostParams.default a).timeout.toNat = 2000) ∧
  (∀ p : HostParams, 1 ≤ p.timeout.toNat ∧ p.timeout.toNat ≤ 65535) ∧
  ∀ (p : HostParams) (n : Nat) (c : HostCall) (s : State), c.phase = .arm → s.cfg.qTicks ≠ 0 → s.rxState = .off →
    ∃ t, systemTurn p (.host n) c s = .next ({ c with phase := .await }, t) ∧ exec (.rxArm p.timeout) s = .next t ∧
      t.cmdStatus = .ok ∧ t.rxState = .idle ∧ t.orem = p.timeout

/-- From R160 to R162: a response is returned only for an OK receive whose command, source and destination answer the
request, and it is that frame's payload. -/
def Obligations.HostReturnsOnlyValidated : Prop :=
  ∀ (p : HostParams) (u : Turn) (c c' : HostCall) (s s' : State) (q : List Byte),
    systemTurn p u c s = .next (c', s') → c.ended = false → c'.phase = .finished (.response q) →
    s.rxDone = true ∧ s.rxRes.status = .ok ∧ s.rxRes.cmd = c.cmd ∧ s.rxRes.src = c.dst ∧
      s.rxRes.dst = p.localAddr ∧ q = s.rxRes.payload.take s.rxRes.plen.toNat ∧ s' = s
end

