-- ==== Sys2Proof/Laws/Bytes.lean ====
section
/-! SUPPORT. The small lemmas of buffers, big-endian operands and byte sequences. -/

namespace Sys2Proof

/-- Two buffers with the same byte at every index are the same. -/
theorem Buffer.ext_get {n : Nat} {a b : Buffer n} (h : ∀ i, i < n → a.get i = b.get i) : a = b := by
  obtain ⟨x, hx⟩ := a
  obtain ⟨y, hy⟩ := b
  have : x = y := by
    apply List.ext_getElem (by rw [hx, hy])
    intro i h1 h2
    have := h i (by omega)
    simpa [Buffer.get, List.getD_eq_getElem?_getD, List.getElem?_eq_getElem h1, List.getElem?_eq_getElem h2] using this
  subst this
  rfl

@[simp] theorem Buffer.get_zero (n i : Nat) : (Buffer.zero n).get i = 0 := by
  simp only [Buffer.get, Buffer.zero, List.getD_eq_getElem?_getD, List.getElem?_replicate]
  split <;> rfl

/-- A buffer reads as 0 past its end. -/
theorem Buffer.get_past {n : Nat} (buf : Buffer n) {i : Nat} (h : n ≤ i) : buf.get i = 0 := by
  have := buf.length
  simp [Buffer.get, List.getD_eq_getElem?_getD, List.getElem?_eq_none (by omega : buf.bytes.length ≤ i)]

/-- Reading after a write at an index inside the buffer. -/
theorem Buffer.get_set {n : Nat} (buf : Buffer n) {i : Nat} (hi : i < n) (v : Byte) (j : Nat) :
    (buf.set i v).get j = if j = i then v else buf.get j := by
  have hl := buf.length
  simp only [Buffer.get, Buffer.set, List.getD_eq_getElem?_getD, List.getElem?_set]
  by_cases h : i = j
  · subst h
    simp [hl, hi]
  · simp [h, Ne.symm h]

/-- A buffer made from a sequence that fits holds the sequence, and zeros after it. -/
theorem Buffer.get_ofList {n : Nat} {l : List Byte} (h : l.length ≤ n) (i : Nat) :
    (Buffer.ofList n l).get i = l.getD i 0 := by
  simp only [Buffer.get, Buffer.ofList, List.getD_eq_getElem?_getD]
  rw [List.take_of_length_le (by simp; omega)]
  by_cases hi : i < l.length
  · rw [List.getElem?_append_left hi]
  · rw [List.getElem?_append_right (by omega), List.getElem?_replicate, List.getElem?_eq_none (by omega)]
    split <;> rfl

/-- The first bytes of a buffer made from a sequence that fits are the sequence. -/
theorem Buffer.take_ofList {n : Nat} {l : List Byte} (h : l.length ≤ n) :
    (Buffer.ofList n l).take l.length = l := by
  simp only [Buffer.take, Buffer.ofList]
  rw [List.take_take, Nat.min_eq_left h, List.take_left']
  rfl

@[simp] theorem Buffer.take_zero_count {n : Nat} (buf : Buffer n) : buf.take 0 = [] := rfl

theorem Buffer.length_take {n : Nat} (buf : Buffer n) (k : Nat) : (buf.take k).length = min k n := by
  rw [Buffer.take, List.length_take, buf.length]

/-- Writing the byte after the first `k` appends it to them. -/
theorem Buffer.take_set_succ {n : Nat} (buf : Buffer n) {k : Nat} (hk : k < n) (v : Byte) :
    (buf.set k v).take (k + 1) = buf.take k ++ [v] := by
  have hl := buf.length
  simp only [Buffer.take, Buffer.set]
  rw [List.take_add_one, List.take_set_of_le (Nat.le_refl k), List.getElem?_set]
  simp [hl, hk]

namespace Machine

@[simp] theorem be16_hi_lo (v : Ticks) : be16 (hiByte v) (loByte v) = v := by
  simp only [be16, hiByte, loByte]
  rw [BitVec.extractLsb'_append_extractLsb'_eq_extractLsb' (by omega)]
  simp

@[simp] theorem hiByte_be16 (hi lo : Byte) : hiByte (be16 hi lo) = hi := by
  apply BitVec.eq_of_getLsbD_eq
  intro i h
  simp only [hiByte, be16, BitVec.getLsbD_extractLsb', BitVec.getLsbD_append]
  simp [h]

@[simp] theorem loByte_be16 (hi lo : Byte) : loByte (be16 hi lo) = lo := by
  apply BitVec.eq_of_getLsbD_eq
  intro i h
  simp only [loByte, be16, BitVec.getLsbD_extractLsb', BitVec.getLsbD_append]
  simp [h]

/-- A big-endian operand's value: the first byte counts 256 times (R71, R72). -/
theorem be16_toNat (hi lo : Byte) : (be16 hi lo).toNat = hi.toNat * 256 + lo.toNat := by
  simp only [be16, BitVec.toNat_append]
  rw [← Nat.shiftLeft_add_eq_or_of_lt (by omega), Nat.shiftLeft_eq]

@[simp] theorem byteAt_cons_zero (x : Byte) (l : List Byte) : byteAt (x :: l) 0 = x := rfl

@[simp] theorem byteAt_cons_succ (x : Byte) (l : List Byte) (i : Nat) : byteAt (x :: l) (i + 1) = byteAt l i := by
  simp [byteAt]

@[simp] theorem byteAt_nil (i : Nat) : byteAt [] i = 0 := by simp [byteAt]

/-- A byte inside the first part of a concatenation. -/
theorem byteAt_append_left (a b : List Byte) {i : Nat} (h : i < a.length) : byteAt (a ++ b) i = byteAt a i := by
  simp [byteAt, List.getD_eq_getElem?_getD, List.getElem?_append_left h]

/-- A byte inside the second part of a concatenation. -/
theorem byteAt_append_right (a b : List Byte) {i : Nat} (h : a.length ≤ i) :
    byteAt (a ++ b) i = byteAt b (i - a.length) := by
  simp [byteAt, List.getD_eq_getElem?_getD, List.getElem?_append_right h]

/-- The length of a slice that lies inside its sequence. -/
theorem length_slice {b : List Byte} {i j : Nat} (h : j < b.length) : (slice b i j).length = j + 1 - i := by
  simp only [slice, List.length_take, List.length_drop]
  omega

end Machine

end Sys2Proof
end

