-- ==== Sys2Proof/Laws/Codec.lean ====
section
/-! SUPPORT. The small lemmas of the codec's shared functions: sum, checksum, lenfield, frame bytes, result records. -/

namespace Sys2Proof.Machine

@[simp] theorem byteSum_nil : byteSum [] = 0 := rfl

@[simp] theorem byteSum_cons (x : Byte) (l : List Byte) : byteSum (x :: l) = x.toNat + byteSum l := by
  simp [byteSum]

@[simp] theorem byteSum_append (a b : List Byte) : byteSum (a ++ b) = byteSum a + byteSum b := by
  simp [byteSum]

/-- The value of neg8 as a number (R14). -/
theorem toNat_neg8 (v : Nat) : (neg8 v).toNat = (256 - v % 256) % 256 := by
  simp only [neg8, BitVec.toNat_ofNat]
  omega

/-- A sum and its negation are 0 mod 256. -/
theorem add_neg8_mod (v : Nat) : (v + (neg8 v).toNat) % 256 = 0 := by
  rw [toNat_neg8]
  omega

/-- The length field's value, for a payload ENCODE accepts (R82, R89). -/
theorem toNat_lenfield {n : Nat} (h : n ≤ maxPayload) : (lenfield n).toNat = n + 3 := by
  simp only [lenfield, hdr, maxPayload, BitVec.toNat_ofNat] at *
  omega

@[simp] theorem length_coveredBytes (ss dd cc : Byte) (p : List Byte) :
    (coveredBytes ss dd cc p).length = p.length + 4 := by
  simp [coveredBytes]

@[simp] theorem length_frameBytes (ss dd cc : Byte) (p : List Byte) :
    (frameBytes ss dd cc p).length = p.length + 6 := by
  simp [frameBytes]

@[simp] theorem byteAt_frameBytes_zero (ss dd cc : Byte) (p : List Byte) :
    byteAt (frameBytes ss dd cc p) 0 = sentinel := rfl

@[simp] theorem byteAt_frameBytes_one (ss dd cc : Byte) (p : List Byte) :
    byteAt (frameBytes ss dd cc p) 1 = lenfield p.length := rfl

/-- ENCODE's frame for a payload of at most 252 bytes (R83). -/
theorem encodeFrame_of_le {p : List Byte} (h : p.length ≤ maxPayload) (ss dd cc : Byte) :
    encodeFrame ss dd cc p = some (frameBytes ss dd cc p) := by
  simp [encodeFrame, Nat.not_lt.mpr h]

/-- No frame for a longer payload (R84). -/
theorem encodeFrame_of_lt {p : List Byte} (h : maxPayload < p.length) (ss dd cc : Byte) :
    encodeFrame ss dd cc p = none := by
  simp [encodeFrame, h]

/-- What decode answers when it answers a frame: all four checks passed, and the fields are the buffer's (R94, R99). -/
theorem decodeFrame_frame {b : List Byte} {f : Frame} (h : decodeFrame b = .frame f) :
    6 ≤ b.length ∧ byteAt b 0 = sentinel ∧ b.length = (byteAt b 1).toNat + 3 ∧
      checksum (slice b 1 ((byteAt b 1).toNat + 1)) = byteAt b ((byteAt b 1).toNat + 2) ∧
      f = { src := byteAt b 2, dst := byteAt b 3, cmd := byteAt b 4, len := byteAt b 1
            payload := slice b 5 ((byteAt b 1).toNat + 1) } := by
  unfold decodeFrame at h
  split at h
  · cases h
  · split at h
    · cases h
    · split at h
      · cases h
      · split at h
        · cases h
        · simp only [minFrame, ne_eq, not_not, not_lt] at *
          exact ⟨by assumption, by assumption, by assumption, by assumption, by cases h; rfl⟩

@[simp] theorem recordOf_frame_status (f : Frame) : (recordOf (.frame f)).status = .ok := rfl
@[simp] theorem recordOf_frame_src (f : Frame) : (recordOf (.frame f)).src = f.src := rfl
@[simp] theorem recordOf_frame_dst (f : Frame) : (recordOf (.frame f)).dst = f.dst := rfl
@[simp] theorem recordOf_frame_cmd (f : Frame) : (recordOf (.frame f)).cmd = f.cmd := rfl
@[simp] theorem recordOf_frame_len (f : Frame) : (recordOf (.frame f)).len = f.len := rfl
@[simp] theorem recordOf_frame_plen (f : Frame) : (recordOf (.frame f)).plen = f.len - 3 := rfl
@[simp] theorem recordOf_frame_payload (f : Frame) :
    (recordOf (.frame f)).payload = Buffer.ofList 252 f.payload := rfl
@[simp] theorem recordOf_error (e : FrameError) : recordOf (.error e) = .blank e.status := rfl

@[simp] theorem FrameError.status_ne_ok (e : FrameError) : e.status ≠ .ok := by cases e <;> decide

end Sys2Proof.Machine
end

