-- ==== Sys2Proof/Laws/Host.lean ====
section
/-! SUPPORT. What a failed attempt, an item presented by the host, and one turn of host and block can do. -/

namespace Sys2Proof.Machine

/-- A failed attempt ends the call, or begins the next attempt at step 1. -/
theorem HostCall.fail_cases (c : HostCall) (e : AttemptError) :
    (c.blind = true ∧ c.fail e = { c with phase := .finished (.writeError e) }) ∨
    (c.blind = false ∧ c.attempt < retryCount ∧ c.fail e = { c with attempt := c.attempt + 1, phase := .flush }) ∨
    (c.blind = false ∧ retryCount ≤ c.attempt ∧
      c.fail e = { c with phase := .finished (.commandFailed c.attempt e) }) := by
  unfold HostCall.fail
  cases hb : c.blind with
  | true => exact .inl ⟨rfl, rfl⟩
  | false =>
    by_cases h : c.attempt < retryCount
    · exact .inr (.inl ⟨rfl, h, by rw [if_neg (by decide), if_pos h]⟩)
    · exact .inr (.inr ⟨rfl, by omega, by rw [if_neg (by decide), if_neg h]⟩)

/-- An item the host presents is taken by one step of the block. -/
theorem presentItem_next {x : Input} {s s' : State} {after : State → HostCall} {c : HostCall}
    (h : presentItem x s after = .next (c, s')) :
    step (s.setInputs (x :: s.inputs)) = .next s' ∧ c = after s' := by
  unfold presentItem at h
  split at h
  · rename_i s1 h1
    cases h
    exact ⟨h1, rfl⟩
  · cases h
  · cases h

/-- One turn leaves the call as it is, or does one step of its attempt. -/
theorem systemTurn_next {p : HostParams} {u : Turn} {c c' : HostCall} {s s' : State}
    (h : systemTurn p u c s = .next (c', s')) :
    c' = c ∨
    (c.phase = .flush ∧ s.rxState = .off ∧ c' = { c with phase := .encode }) ∨
    (c.phase = .encode ∧ c' = c.afterEncode s') ∨
    (c.phase = .write ∧ s' = s ∧ ∃ n, c' = c.afterWrite n s) ∨
    (c.phase = .arm ∧ c' = { c with phase := .await }) ∨
    (c.phase = .await ∧ s.rxDone = true ∧ s' = s ∧ c' = c.afterReceive p s) := by
  unfold systemTurn at h
  split at h
  · unfold hostTurn at h
    split at h
    · rename_i hp
      split at h
      · exact .inr (.inl ⟨hp, by assumption, (presentItem_next h).2⟩)
      · cases h; exact .inl rfl
      · cases h; exact .inl rfl
    · rename_i hp
      exact .inr (.inr (.inl ⟨hp, (presentItem_next h).2⟩))
    · rename_i hp
      cases h; exact .inr (.inr (.inr (.inl ⟨hp, rfl, _, rfl⟩)))
    · rename_i hp
      exact .inr (.inr (.inr (.inr (.inl ⟨hp, (presentItem_next h).2⟩))))
    · rename_i hp
      split at h
      · rename_i hd
        cases h; exact .inr (.inr (.inr (.inr (.inr ⟨hp, hd, rfl, rfl⟩))))
      · cases h; exact .inl rfl
    · cases h; exact .inl rfl
  · split at h
    · cases h; exact .inl rfl
    · cases h
    · cases h

end Sys2Proof.Machine
end

