-- ==== Sys2Proof/Laws/PerInstr.lean ====
section
/-! SUPPORT. The per-instruction family EncodeLength: the length the encoder gives an operation is the one its layout
gives (R70 to R74, R76). -/

namespace Sys2Proof.Laws.EncodeLength

/-- The operation's row of the opcode table gives it a layout; the two reserved rows have any length. -/
def hasLayout : Instr → Bool
  | .nop => true
  | .encode _ _ _ _ => true
  | .decode _ => true
  | .rxArm _ => true
  | .reset => true
  | .reservedCmd _ => false
  | .rxByte _ => true
  | .tick => true
  | .reservedEvent _ _ => false

/-- An operation that can be presented is encoded in as many bytes as its layout gives. -/
def Statement (i : Instr) : Prop :=
  WellFormed i = true → hasLayout i = true → (Sys2Proof.encode i).length = layoutLength (Sys2Proof.encode i)

theorem nop : Statement .nop := by intro _ _; decide

theorem encode (ss dd cc : Byte) (payload : List Byte) : Statement (.encode ss dd cc payload) := by
  intro h _
  have hp : payload.length ≤ 255 := of_decide_eq_true h
  have : (BitVec.ofNat 8 payload.length).toNat = payload.length := by simp; omega
  show payload.length + 5 = 5 + (BitVec.ofNat 8 payload.length).toNat
  omega

theorem decode (buffer : List Byte) : Statement (.decode buffer) := by
  intro h _
  have hb : buffer.length ≤ 65535 := of_decide_eq_true h
  have hn : (BitVec.ofNat 16 buffer.length).toNat = buffer.length := by simp; omega
  have hw : Machine.be16 (Machine.hiByte (BitVec.ofNat 16 buffer.length)) (Machine.loByte (BitVec.ofNat 16 buffer.length))
      = BitVec.ofNat 16 buffer.length := by
    simp only [Machine.be16, Machine.hiByte, Machine.loByte]
    rw [BitVec.extractLsb'_append_extractLsb'_eq_extractLsb' (by omega)]
    simp
  show buffer.length + 3 = 3 + (Machine.be16 (Machine.hiByte (BitVec.ofNat 16 buffer.length))
    (Machine.loByte (BitVec.ofNat 16 buffer.length))).toNat
  rw [hw, hn, Nat.add_comm]

theorem rxArm (deadline : Ticks) : Statement (.rxArm deadline) := by intro _ _; rfl

theorem reset : Statement .reset := by intro _ _; decide

theorem reservedCmd (message : List Byte) : Statement (.reservedCmd message) := by intro _ h; cases h

theorem rxByte (b : Byte) : Statement (.rxByte b) := by intro _ _; rfl

theorem tick : Statement .tick := by intro _ _; decide

theorem reservedEvent (tag : Byte) (data : List Byte) : Statement (.reservedEvent tag data) := by intro _ h; cases h

end Sys2Proof.Laws.EncodeLength
end

