-- ==== Sys2Proof/Laws/State.lean ====
section
/-! SUPPORT. One lemma per field per update of the state, and per field of the reset states; all true by rfl. -/

namespace Sys2Proof.Machine

variable (s : State)
section setCmdStatus
@[simp] theorem State.setCmdStatus_cfg (st : Status) : (s.setCmdStatus st).cfg = s.cfg := rfl
@[simp] theorem State.setCmdStatus_cmdStatus (st : Status) : (s.setCmdStatus st).cmdStatus = st := rfl
@[simp] theorem State.setCmdStatus_txBuf (st : Status) : (s.setCmdStatus st).txBuf = s.txBuf := rfl
@[simp] theorem State.setCmdStatus_txLen (st : Status) : (s.setCmdStatus st).txLen = s.txLen := rfl
@[simp] theorem State.setCmdStatus_encStatus (st : Status) : (s.setCmdStatus st).encStatus = s.encStatus := rfl
@[simp] theorem State.setCmdStatus_decRes (st : Status) : (s.setCmdStatus st).decRes = s.decRes := rfl
@[simp] theorem State.setCmdStatus_rxState (st : Status) : (s.setCmdStatus st).rxState = s.rxState := rfl
@[simp] theorem State.setCmdStatus_rxBuf (st : Status) : (s.setCmdStatus st).rxBuf = s.rxBuf := rfl
@[simp] theorem State.setCmdStatus_rxCnt (st : Status) : (s.setCmdStatus st).rxCnt = s.rxCnt := rfl
@[simp] theorem State.setCmdStatus_rxOvf (st : Status) : (s.setCmdStatus st).rxOvf = s.rxOvf := rfl
@[simp] theorem State.setCmdStatus_rxPrep (st : Status) : (s.setCmdStatus st).rxPrep = s.rxPrep := rfl
@[simp] theorem State.setCmdStatus_qrem (st : Status) : (s.setCmdStatus st).qrem = s.qrem := rfl
@[simp] theorem State.setCmdStatus_orem (st : Status) : (s.setCmdStatus st).orem = s.orem := rfl
@[simp] theorem State.setCmdStatus_rxRes (st : Status) : (s.setCmdStatus st).rxRes = s.rxRes := rfl
@[simp] theorem State.setCmdStatus_transport (st : Status) : (s.setCmdStatus st).transport = s.transport := rfl
@[simp] theorem State.setCmdStatus_inputs (st : Status) : (s.setCmdStatus st).inputs = s.inputs := rfl

end setCmdStatus

section setTx
@[simp] theorem State.setTx_cfg (buf : Buffer 258) (len : Count9) (st : Status) : (s.setTx buf len st).cfg = s.cfg := rfl
@[simp] theorem State.setTx_cmdStatus (buf : Buffer 258) (len : Count9) (st : Status) : (s.setTx buf len st).cmdStatus = s.cmdStatus := rfl
@[simp] theorem State.setTx_txBuf (buf : Buffer 258) (len : Count9) (st : Status) : (s.setTx buf len st).txBuf = buf := rfl
@[simp] theorem State.setTx_txLen (buf : Buffer 258) (len : Count9) (st : Status) : (s.setTx buf len st).txLen = len := rfl
@[simp] theorem State.setTx_encStatus (buf : Buffer 258) (len : Count9) (st : Status) : (s.setTx buf len st).encStatus = st := rfl
@[simp] theorem State.setTx_decRes (buf : Buffer 258) (len : Count9) (st : Status) : (s.setTx buf len st).decRes = s.decRes := rfl
@[simp] theorem State.setTx_rxState (buf : Buffer 258) (len : Count9) (st : Status) : (s.setTx buf len st).rxState = s.rxState := rfl
@[simp] theorem State.setTx_rxBuf (buf : Buffer 258) (len : Count9) (st : Status) : (s.setTx buf len st).rxBuf = s.rxBuf := rfl
@[simp] theorem State.setTx_rxCnt (buf : Buffer 258) (len : Count9) (st : Status) : (s.setTx buf len st).rxCnt = s.rxCnt := rfl
@[simp] theorem State.setTx_rxOvf (buf : Buffer 258) (len : Count9) (st : Status) : (s.setTx buf len st).rxOvf = s.rxOvf := rfl
@[simp] theorem State.setTx_rxPrep (buf : Buffer 258) (len : Count9) (st : Status) : (s.setTx buf len st).rxPrep = s.rxPrep := rfl
@[simp] theorem State.setTx_qrem (buf : Buffer 258) (len : Count9) (st : Status) : (s.setTx buf len st).qrem = s.qrem := rfl
@[simp] theorem State.setTx_orem (buf : Buffer 258) (len : Count9) (st : Status) : (s.setTx buf len st).orem = s.orem := rfl
@[simp] theorem State.setTx_rxRes (buf : Buffer 258) (len : Count9) (st : Status) : (s.setTx buf len st).rxRes = s.rxRes := rfl
@[simp] theorem State.setTx_transport (buf : Buffer 258) (len : Count9) (st : Status) : (s.setTx buf len st).transport = s.transport := rfl
@[simp] theorem State.setTx_inputs (buf : Buffer 258) (len : Count9) (st : Status) : (s.setTx buf len st).inputs = s.inputs := rfl

end setTx

section setDecRes
@[simp] theorem State.setDecRes_cfg (r : ResultRecord) : (s.setDecRes r).cfg = s.cfg := rfl
@[simp] theorem State.setDecRes_cmdStatus (r : ResultRecord) : (s.setDecRes r).cmdStatus = s.cmdStatus := rfl
@[simp] theorem State.setDecRes_txBuf (r : ResultRecord) : (s.setDecRes r).txBuf = s.txBuf := rfl
@[simp] theorem State.setDecRes_txLen (r : ResultRecord) : (s.setDecRes r).txLen = s.txLen := rfl
@[simp] theorem State.setDecRes_encStatus (r : ResultRecord) : (s.setDecRes r).encStatus = s.encStatus := rfl
@[simp] theorem State.setDecRes_decRes (r : ResultRecord) : (s.setDecRes r).decRes = r := rfl
@[simp] theorem State.setDecRes_rxState (r : ResultRecord) : (s.setDecRes r).rxState = s.rxState := rfl
@[simp] theorem State.setDecRes_rxBuf (r : ResultRecord) : (s.setDecRes r).rxBuf = s.rxBuf := rfl
@[simp] theorem State.setDecRes_rxCnt (r : ResultRecord) : (s.setDecRes r).rxCnt = s.rxCnt := rfl
@[simp] theorem State.setDecRes_rxOvf (r : ResultRecord) : (s.setDecRes r).rxOvf = s.rxOvf := rfl
@[simp] theorem State.setDecRes_rxPrep (r : ResultRecord) : (s.setDecRes r).rxPrep = s.rxPrep := rfl
@[simp] theorem State.setDecRes_qrem (r : ResultRecord) : (s.setDecRes r).qrem = s.qrem := rfl
@[simp] theorem State.setDecRes_orem (r : ResultRecord) : (s.setDecRes r).orem = s.orem := rfl
@[simp] theorem State.setDecRes_rxRes (r : ResultRecord) : (s.setDecRes r).rxRes = s.rxRes := rfl
@[simp] theorem State.setDecRes_transport (r : ResultRecord) : (s.setDecRes r).transport = s.transport := rfl
@[simp] theorem State.setDecRes_inputs (r : ResultRecord) : (s.setDecRes r).inputs = s.inputs := rfl

end setDecRes

section startReceive
@[simp] theorem State.startReceive_cfg (t : Ticks) : (s.startReceive t).cfg = s.cfg := rfl
@[simp] theorem State.startReceive_cmdStatus (t : Ticks) : (s.startReceive t).cmdStatus = s.cmdStatus := rfl
@[simp] theorem State.startReceive_txBuf (t : Ticks) : (s.startReceive t).txBuf = s.txBuf := rfl
@[simp] theorem State.startReceive_txLen (t : Ticks) : (s.startReceive t).txLen = s.txLen := rfl
@[simp] theorem State.startReceive_encStatus (t : Ticks) : (s.startReceive t).encStatus = s.encStatus := rfl
@[simp] theorem State.startReceive_decRes (t : Ticks) : (s.startReceive t).decRes = s.decRes := rfl
@[simp] theorem State.startReceive_rxState (t : Ticks) : (s.startReceive t).rxState = .idle := rfl
@[simp] theorem State.startReceive_rxBuf (t : Ticks) : (s.startReceive t).rxBuf = Buffer.zero 258 := rfl
@[simp] theorem State.startReceive_rxCnt (t : Ticks) : (s.startReceive t).rxCnt = 0 := rfl
@[simp] theorem State.startReceive_rxOvf (t : Ticks) : (s.startReceive t).rxOvf = false := rfl
@[simp] theorem State.startReceive_rxPrep (t : Ticks) : (s.startReceive t).rxPrep = false := rfl
@[simp] theorem State.startReceive_qrem (t : Ticks) : (s.startReceive t).qrem = 0 := rfl
@[simp] theorem State.startReceive_orem (t : Ticks) : (s.startReceive t).orem = t := rfl
@[simp] theorem State.startReceive_rxRes (t : Ticks) : (s.startReceive t).rxRes = .blank .none := rfl
@[simp] theorem State.startReceive_transport (t : Ticks) : (s.startReceive t).transport = s.transport := rfl
@[simp] theorem State.startReceive_inputs (t : Ticks) : (s.startReceive t).inputs = s.inputs := rfl

end startReceive

section storeByte
@[simp] theorem State.storeByte_cfg (k : Count9) (b : Byte) : (s.storeByte k b).cfg = s.cfg := rfl
@[simp] theorem State.storeByte_cmdStatus (k : Count9) (b : Byte) : (s.storeByte k b).cmdStatus = s.cmdStatus := rfl
@[simp] theorem State.storeByte_txBuf (k : Count9) (b : Byte) : (s.storeByte k b).txBuf = s.txBuf := rfl
@[simp] theorem State.storeByte_txLen (k : Count9) (b : Byte) : (s.storeByte k b).txLen = s.txLen := rfl
@[simp] theorem State.storeByte_encStatus (k : Count9) (b : Byte) : (s.storeByte k b).encStatus = s.encStatus := rfl
@[simp] theorem State.storeByte_decRes (k : Count9) (b : Byte) : (s.storeByte k b).decRes = s.decRes := rfl
@[simp] theorem State.storeByte_rxState (k : Count9) (b : Byte) : (s.storeByte k b).rxState = s.rxState := rfl
@[simp] theorem State.storeByte_rxBuf (k : Count9) (b : Byte) : (s.storeByte k b).rxBuf = s.rxBuf.set k.toNat b := rfl
@[simp] theorem State.storeByte_rxCnt (k : Count9) (b : Byte) : (s.storeByte k b).rxCnt = k + 1 := rfl
@[simp] theorem State.storeByte_rxOvf (k : Count9) (b : Byte) : (s.storeByte k b).rxOvf = s.rxOvf := rfl
@[simp] theorem State.storeByte_rxPrep (k : Count9) (b : Byte) : (s.storeByte k b).rxPrep = s.rxPrep := rfl
@[simp] theorem State.storeByte_qrem (k : Count9) (b : Byte) : (s.storeByte k b).qrem = s.qrem := rfl
@[simp] theorem State.storeByte_orem (k : Count9) (b : Byte) : (s.storeByte k b).orem = s.orem := rfl
@[simp] theorem State.storeByte_rxRes (k : Count9) (b : Byte) : (s.storeByte k b).rxRes = s.rxRes := rfl
@[simp] theorem State.storeByte_transport (k : Count9) (b : Byte) : (s.storeByte k b).transport = s.transport := rfl
@[simp] theorem State.storeByte_inputs (k : Count9) (b : Byte) : (s.storeByte k b).inputs = s.inputs := rfl

end storeByte

section markOverflow
@[simp] theorem State.markOverflow_cfg : s.markOverflow.cfg = s.cfg := rfl
@[simp] theorem State.markOverflow_cmdStatus : s.markOverflow.cmdStatus = s.cmdStatus := rfl
@[simp] theorem State.markOverflow_txBuf : s.markOverflow.txBuf = s.txBuf := rfl
@[simp] theorem State.markOverflow_txLen : s.markOverflow.txLen = s.txLen := rfl
@[simp] theorem State.markOverflow_encStatus : s.markOverflow.encStatus = s.encStatus := rfl
@[simp] theorem State.markOverflow_decRes : s.markOverflow.decRes = s.decRes := rfl
@[simp] theorem State.markOverflow_rxState : s.markOverflow.rxState = s.rxState := rfl
@[simp] theorem State.markOverflow_rxBuf : s.markOverflow.rxBuf = s.rxBuf := rfl
@[simp] theorem State.markOverflow_rxCnt : s.markOverflow.rxCnt = s.rxCnt := rfl
@[simp] theorem State.markOverflow_rxOvf : s.markOverflow.rxOvf = true := rfl
@[simp] theorem State.markOverflow_rxPrep : s.markOverflow.rxPrep = s.rxPrep := rfl
@[simp] theorem State.markOverflow_qrem : s.markOverflow.qrem = s.qrem := rfl
@[simp] theorem State.markOverflow_orem : s.markOverflow.orem = s.orem := rfl
@[simp] theorem State.markOverflow_rxRes : s.markOverflow.rxRes = s.rxRes := rfl
@[simp] theorem State.markOverflow_transport : s.markOverflow.transport = s.transport := rfl
@[simp] theorem State.markOverflow_inputs : s.markOverflow.inputs = s.inputs := rfl

end markOverflow

section restartQuiet
@[simp] theorem State.restartQuiet_cfg : s.restartQuiet.cfg = s.cfg := rfl
@[simp] theorem State.restartQuiet_cmdStatus : s.restartQuiet.cmdStatus = s.cmdStatus := rfl
@[simp] theorem State.restartQuiet_txBuf : s.restartQuiet.txBuf = s.txBuf := rfl
@[simp] theorem State.restartQuiet_txLen : s.restartQuiet.txLen = s.txLen := rfl
@[simp] theorem State.restartQuiet_encStatus : s.restartQuiet.encStatus = s.encStatus := rfl
@[simp] theorem State.restartQuiet_decRes : s.restartQuiet.decRes = s.decRes := rfl
@[simp] theorem State.restartQuiet_rxState : s.restartQuiet.rxState = s.rxState := rfl
@[simp] theorem State.restartQuiet_rxBuf : s.restartQuiet.rxBuf = s.rxBuf := rfl
@[simp] theorem State.restartQuiet_rxCnt : s.restartQuiet.rxCnt = s.rxCnt := rfl
@[simp] theorem State.restartQuiet_rxOvf : s.restartQuiet.rxOvf = s.rxOvf := rfl
@[simp] theorem State.restartQuiet_rxPrep : s.restartQuiet.rxPrep = s.rxPrep := rfl
@[simp] theorem State.restartQuiet_qrem : s.restartQuiet.qrem = s.cfg.qTicks := rfl
@[simp] theorem State.restartQuiet_orem : s.restartQuiet.orem = s.orem := rfl
@[simp] theorem State.restartQuiet_rxRes : s.restartQuiet.rxRes = s.rxRes := rfl
@[simp] theorem State.restartQuiet_transport : s.restartQuiet.transport = s.transport := rfl
@[simp] theorem State.restartQuiet_inputs : s.restartQuiet.inputs = s.inputs := rfl

end restartQuiet

section startCollecting
@[simp] theorem State.startCollecting_cfg : s.startCollecting.cfg = s.cfg := rfl
@[simp] theorem State.startCollecting_cmdStatus : s.startCollecting.cmdStatus = s.cmdStatus := rfl
@[simp] theorem State.startCollecting_txBuf : s.startCollecting.txBuf = s.txBuf := rfl
@[simp] theorem State.startCollecting_txLen : s.startCollecting.txLen = s.txLen := rfl
@[simp] theorem State.startCollecting_encStatus : s.startCollecting.encStatus = s.encStatus := rfl
@[simp] theorem State.startCollecting_decRes : s.startCollecting.decRes = s.decRes := rfl
@[simp] theorem State.startCollecting_rxState : s.startCollecting.rxState = .collecting := rfl
@[simp] theorem State.startCollecting_rxBuf : s.startCollecting.rxBuf = s.rxBuf := rfl
@[simp] theorem State.startCollecting_rxCnt : s.startCollecting.rxCnt = s.rxCnt := rfl
@[simp] theorem State.startCollecting_rxOvf : s.startCollecting.rxOvf = s.rxOvf := rfl
@[simp] theorem State.startCollecting_rxPrep : s.startCollecting.rxPrep = s.rxPrep := rfl
@[simp] theorem State.startCollecting_qrem : s.startCollecting.qrem = s.qrem := rfl
@[simp] theorem State.startCollecting_orem : s.startCollecting.orem = s.orem := rfl
@[simp] theorem State.startCollecting_rxRes : s.startCollecting.rxRes = s.rxRes := rfl
@[simp] theorem State.startCollecting_transport : s.startCollecting.transport = s.transport := rfl
@[simp] theorem State.startCollecting_inputs : s.startCollecting.inputs = s.inputs := rfl

end startCollecting

section countQuiet
@[simp] theorem State.countQuiet_cfg : s.countQuiet.cfg = s.cfg := rfl
@[simp] theorem State.countQuiet_cmdStatus : s.countQuiet.cmdStatus = s.cmdStatus := rfl
@[simp] theorem State.countQuiet_txBuf : s.countQuiet.txBuf = s.txBuf := rfl
@[simp] theorem State.countQuiet_txLen : s.countQuiet.txLen = s.txLen := rfl
@[simp] theorem State.countQuiet_encStatus : s.countQuiet.encStatus = s.encStatus := rfl
@[simp] theorem State.countQuiet_decRes : s.countQuiet.decRes = s.decRes := rfl
@[simp] theorem State.countQuiet_rxState : s.countQuiet.rxState = s.rxState := rfl
@[simp] theorem State.countQuiet_rxBuf : s.countQuiet.rxBuf = s.rxBuf := rfl
@[simp] theorem State.countQuiet_rxCnt : s.countQuiet.rxCnt = s.rxCnt := rfl
@[simp] theorem State.countQuiet_rxOvf : s.countQuiet.rxOvf = s.rxOvf := rfl
@[simp] theorem State.countQuiet_rxPrep : s.countQuiet.rxPrep = s.rxPrep := rfl
@[simp] theorem State.countQuiet_qrem : s.countQuiet.qrem = s.qrem - 1 := rfl
@[simp] theorem State.countQuiet_orem : s.countQuiet.orem = s.orem := rfl
@[simp] theorem State.countQuiet_rxRes : s.countQuiet.rxRes = s.rxRes := rfl
@[simp] theorem State.countQuiet_transport : s.countQuiet.transport = s.transport := rfl
@[simp] theorem State.countQuiet_inputs : s.countQuiet.inputs = s.inputs := rfl

end countQuiet

section countDeadline
@[simp] theorem State.countDeadline_cfg : s.countDeadline.cfg = s.cfg := rfl
@[simp] theorem State.countDeadline_cmdStatus : s.countDeadline.cmdStatus = s.cmdStatus := rfl
@[simp] theorem State.countDeadline_txBuf : s.countDeadline.txBuf = s.txBuf := rfl
@[simp] theorem State.countDeadline_txLen : s.countDeadline.txLen = s.txLen := rfl
@[simp] theorem State.countDeadline_encStatus : s.countDeadline.encStatus = s.encStatus := rfl
@[simp] theorem State.countDeadline_decRes : s.countDeadline.decRes = s.decRes := rfl
@[simp] theorem State.countDeadline_rxState : s.countDeadline.rxState = s.rxState := rfl
@[simp] theorem State.countDeadline_rxBuf : s.countDeadline.rxBuf = s.rxBuf := rfl
@[simp] theorem State.countDeadline_rxCnt : s.countDeadline.rxCnt = s.rxCnt := rfl
@[simp] theorem State.countDeadline_rxOvf : s.countDeadline.rxOvf = s.rxOvf := rfl
@[simp] theorem State.countDeadline_rxPrep : s.countDeadline.rxPrep = s.rxPrep := rfl
@[simp] theorem State.countDeadline_qrem : s.countDeadline.qrem = s.qrem := rfl
@[simp] theorem State.countDeadline_orem : s.countDeadline.orem = s.orem - 1 := rfl
@[simp] theorem State.countDeadline_rxRes : s.countDeadline.rxRes = s.rxRes := rfl
@[simp] theorem State.countDeadline_transport : s.countDeadline.transport = s.transport := rfl
@[simp] theorem State.countDeadline_inputs : s.countDeadline.inputs = s.inputs := rfl

end countDeadline

section setRxPrep
@[simp] theorem State.setRxPrep_cfg (p : Bool) : (s.setRxPrep p).cfg = s.cfg := rfl
@[simp] theorem State.setRxPrep_cmdStatus (p : Bool) : (s.setRxPrep p).cmdStatus = s.cmdStatus := rfl
@[simp] theorem State.setRxPrep_txBuf (p : Bool) : (s.setRxPrep p).txBuf = s.txBuf := rfl
@[simp] theorem State.setRxPrep_txLen (p : Bool) : (s.setRxPrep p).txLen = s.txLen := rfl
@[simp] theorem State.setRxPrep_encStatus (p : Bool) : (s.setRxPrep p).encStatus = s.encStatus := rfl
@[simp] theorem State.setRxPrep_decRes (p : Bool) : (s.setRxPrep p).decRes = s.decRes := rfl
@[simp] theorem State.setRxPrep_rxState (p : Bool) : (s.setRxPrep p).rxState = s.rxState := rfl
@[simp] theorem State.setRxPrep_rxBuf (p : Bool) : (s.setRxPrep p).rxBuf = s.rxBuf := rfl
@[simp] theorem State.setRxPrep_rxCnt (p : Bool) : (s.setRxPrep p).rxCnt = s.rxCnt := rfl
@[simp] theorem State.setRxPrep_rxOvf (p : Bool) : (s.setRxPrep p).rxOvf = s.rxOvf := rfl
@[simp] theorem State.setRxPrep_rxPrep (p : Bool) : (s.setRxPrep p).rxPrep = p := rfl
@[simp] theorem State.setRxPrep_qrem (p : Bool) : (s.setRxPrep p).qrem = s.qrem := rfl
@[simp] theorem State.setRxPrep_orem (p : Bool) : (s.setRxPrep p).orem = s.orem := rfl
@[simp] theorem State.setRxPrep_rxRes (p : Bool) : (s.setRxPrep p).rxRes = s.rxRes := rfl
@[simp] theorem State.setRxPrep_transport (p : Bool) : (s.setRxPrep p).transport = s.transport := rfl
@[simp] theorem State.setRxPrep_inputs (p : Bool) : (s.setRxPrep p).inputs = s.inputs := rfl

end setRxPrep

section endReceive
@[simp] theorem State.endReceive_cfg (r : ResultRecord) : (s.endReceive r).cfg = s.cfg := rfl
@[simp] theorem State.endReceive_cmdStatus (r : ResultRecord) : (s.endReceive r).cmdStatus = s.cmdStatus := rfl
@[simp] theorem State.endReceive_txBuf (r : ResultRecord) : (s.endReceive r).txBuf = s.txBuf := rfl
@[simp] theorem State.endReceive_txLen (r : ResultRecord) : (s.endReceive r).txLen = s.txLen := rfl
@[simp] theorem State.endReceive_encStatus (r : ResultRecord) : (s.endReceive r).encStatus = s.encStatus := rfl
@[simp] theorem State.endReceive_decRes (r : ResultRecord) : (s.endReceive r).decRes = s.decRes := rfl
@[simp] theorem State.endReceive_rxState (r : ResultRecord) : (s.endReceive r).rxState = .off := rfl
@[simp] theorem State.endReceive_rxBuf (r : ResultRecord) : (s.endReceive r).rxBuf = s.rxBuf := rfl
@[simp] theorem State.endReceive_rxCnt (r : ResultRecord) : (s.endReceive r).rxCnt = s.rxCnt := rfl
@[simp] theorem State.endReceive_rxOvf (r : ResultRecord) : (s.endReceive r).rxOvf = s.rxOvf := rfl
@[simp] theorem State.endReceive_rxPrep (r : ResultRecord) : (s.endReceive r).rxPrep = s.rxPrep := rfl
@[simp] theorem State.endReceive_qrem (r : ResultRecord) : (s.endReceive r).qrem = s.qrem := rfl
@[simp] theorem State.endReceive_orem (r : ResultRecord) : (s.endReceive r).orem = s.orem := rfl
@[simp] theorem State.endReceive_rxRes (r : ResultRecord) : (s.endReceive r).rxRes = r := rfl
@[simp] theorem State.endReceive_transport (r : ResultRecord) : (s.endReceive r).transport = s.transport := rfl
@[simp] theorem State.endReceive_inputs (r : ResultRecord) : (s.endReceive r).inputs = s.inputs := rfl

end endReceive

section setTransport
@[simp] theorem State.setTransport_cfg (bytes : List Byte) : (s.setTransport bytes).cfg = s.cfg := rfl
@[simp] theorem State.setTransport_cmdStatus (bytes : List Byte) : (s.setTransport bytes).cmdStatus = s.cmdStatus := rfl
@[simp] theorem State.setTransport_txBuf (bytes : List Byte) : (s.setTransport bytes).txBuf = s.txBuf := rfl
@[simp] theorem State.setTransport_txLen (bytes : List Byte) : (s.setTransport bytes).txLen = s.txLen := rfl
@[simp] theorem State.setTransport_encStatus (bytes : List Byte) : (s.setTransport bytes).encStatus = s.encStatus := rfl
@[simp] theorem State.setTransport_decRes (bytes : List Byte) : (s.setTransport bytes).decRes = s.decRes := rfl
@[simp] theorem State.setTransport_rxState (bytes : List Byte) : (s.setTransport bytes).rxState = s.rxState := rfl
@[simp] theorem State.setTransport_rxBuf (bytes : List Byte) : (s.setTransport bytes).rxBuf = s.rxBuf := rfl
@[simp] theorem State.setTransport_rxCnt (bytes : List Byte) : (s.setTransport bytes).rxCnt = s.rxCnt := rfl
@[simp] theorem State.setTransport_rxOvf (bytes : List Byte) : (s.setTransport bytes).rxOvf = s.rxOvf := rfl
@[simp] theorem State.setTransport_rxPrep (bytes : List Byte) : (s.setTransport bytes).rxPrep = s.rxPrep := rfl
@[simp] theorem State.setTransport_qrem (bytes : List Byte) : (s.setTransport bytes).qrem = s.qrem := rfl
@[simp] theorem State.setTransport_orem (bytes : List Byte) : (s.setTransport bytes).orem = s.orem := rfl
@[simp] theorem State.setTransport_rxRes (bytes : List Byte) : (s.setTransport bytes).rxRes = s.rxRes := rfl
@[simp] theorem State.setTransport_transport (bytes : List Byte) : (s.setTransport bytes).transport = bytes := rfl
@[simp] theorem State.setTransport_inputs (bytes : List Byte) : (s.setTransport bytes).inputs = s.inputs := rfl

end setTransport

section setInputs
@[simp] theorem State.setInputs_cfg (xs : List Input) : (s.setInputs xs).cfg = s.cfg := rfl
@[simp] theorem State.setInputs_cmdStatus (xs : List Input) : (s.setInputs xs).cmdStatus = s.cmdStatus := rfl
@[simp] theorem State.setInputs_txBuf (xs : List Input) : (s.setInputs xs).txBuf = s.txBuf := rfl
@[simp] theorem State.setInputs_txLen (xs : List Input) : (s.setInputs xs).txLen = s.txLen := rfl
@[simp] theorem State.setInputs_encStatus (xs : List Input) : (s.setInputs xs).encStatus = s.encStatus := rfl
@[simp] theorem State.setInputs_decRes (xs : List Input) : (s.setInputs xs).decRes = s.decRes := rfl
@[simp] theorem State.setInputs_rxState (xs : List Input) : (s.setInputs xs).rxState = s.rxState := rfl
@[simp] theorem State.setInputs_rxBuf (xs : List Input) : (s.setInputs xs).rxBuf = s.rxBuf := rfl
@[simp] theorem State.setInputs_rxCnt (xs : List Input) : (s.setInputs xs).rxCnt = s.rxCnt := rfl
@[simp] theorem State.setInputs_rxOvf (xs : List Input) : (s.setInputs xs).rxOvf = s.rxOvf := rfl
@[simp] theorem State.setInputs_rxPrep (xs : List Input) : (s.setInputs xs).rxPrep = s.rxPrep := rfl
@[simp] theorem State.setInputs_qrem (xs : List Input) : (s.setInputs xs).qrem = s.qrem := rfl
@[simp] theorem State.setInputs_orem (xs : List Input) : (s.setInputs xs).orem = s.orem := rfl
@[simp] theorem State.setInputs_rxRes (xs : List Input) : (s.setInputs xs).rxRes = s.rxRes := rfl
@[simp] theorem State.setInputs_transport (xs : List Input) : (s.setInputs xs).transport = s.transport := rfl
@[simp] theorem State.setInputs_inputs (xs : List Input) : (s.setInputs xs).inputs = xs := rfl

end setInputs

section powerOn

variable (cfg : Config) (bytes : List Byte) (xs : List Input)

@[simp] theorem State.powerOn_cfg : (State.powerOn cfg bytes xs).cfg = cfg := rfl
@[simp] theorem State.powerOn_cmdStatus : (State.powerOn cfg bytes xs).cmdStatus = .none := rfl
@[simp] theorem State.powerOn_txBuf : (State.powerOn cfg bytes xs).txBuf = Buffer.zero 258 := rfl
@[simp] theorem State.powerOn_txLen : (State.powerOn cfg bytes xs).txLen = 0 := rfl
@[simp] theorem State.powerOn_encStatus : (State.powerOn cfg bytes xs).encStatus = .none := rfl
@[simp] theorem State.powerOn_decRes : (State.powerOn cfg bytes xs).decRes = .blank .none := rfl
@[simp] theorem State.powerOn_rxState : (State.powerOn cfg bytes xs).rxState = .off := rfl
@[simp] theorem State.powerOn_rxBuf : (State.powerOn cfg bytes xs).rxBuf = Buffer.zero 258 := rfl
@[simp] theorem State.powerOn_rxCnt : (State.powerOn cfg bytes xs).rxCnt = 0 := rfl
@[simp] theorem State.powerOn_rxOvf : (State.powerOn cfg bytes xs).rxOvf = false := rfl
@[simp] theorem State.powerOn_rxPrep : (State.powerOn cfg bytes xs).rxPrep = false := rfl
@[simp] theorem State.powerOn_qrem : (State.powerOn cfg bytes xs).qrem = 0 := rfl
@[simp] theorem State.powerOn_orem : (State.powerOn cfg bytes xs).orem = 0 := rfl
@[simp] theorem State.powerOn_rxRes : (State.powerOn cfg bytes xs).rxRes = .blank .none := rfl
@[simp] theorem State.powerOn_transport : (State.powerOn cfg bytes xs).transport = bytes := rfl
@[simp] theorem State.powerOn_inputs : (State.powerOn cfg bytes xs).inputs = xs := rfl

end powerOn

section resetFields

@[simp] theorem resetFields_cfg : (resetFields s).cfg = s.cfg := rfl
@[simp] theorem resetFields_cmdStatus : (resetFields s).cmdStatus = .none := rfl
@[simp] theorem resetFields_txBuf : (resetFields s).txBuf = Buffer.zero 258 := rfl
@[simp] theorem resetFields_txLen : (resetFields s).txLen = 0 := rfl
@[simp] theorem resetFields_encStatus : (resetFields s).encStatus = .none := rfl
@[simp] theorem resetFields_decRes : (resetFields s).decRes = .blank .none := rfl
@[simp] theorem resetFields_rxState : (resetFields s).rxState = .off := rfl
@[simp] theorem resetFields_rxBuf : (resetFields s).rxBuf = Buffer.zero 258 := rfl
@[simp] theorem resetFields_rxCnt : (resetFields s).rxCnt = 0 := rfl
@[simp] theorem resetFields_rxOvf : (resetFields s).rxOvf = false := rfl
@[simp] theorem resetFields_rxPrep : (resetFields s).rxPrep = false := rfl
@[simp] theorem resetFields_qrem : (resetFields s).qrem = 0 := rfl
@[simp] theorem resetFields_orem : (resetFields s).orem = 0 := rfl
@[simp] theorem resetFields_rxRes : (resetFields s).rxRes = .blank .none := rfl
@[simp] theorem resetFields_transport : (resetFields s).transport = s.transport := rfl
@[simp] theorem resetFields_inputs : (resetFields s).inputs = s.inputs := rfl

end resetFields

section finalize

@[simp] theorem finalize_cfg : (finalize s).cfg = s.cfg := rfl
@[simp] theorem finalize_cmdStatus : (finalize s).cmdStatus = s.cmdStatus := rfl
@[simp] theorem finalize_txBuf : (finalize s).txBuf = s.txBuf := rfl
@[simp] theorem finalize_txLen : (finalize s).txLen = s.txLen := rfl
@[simp] theorem finalize_encStatus : (finalize s).encStatus = s.encStatus := rfl
@[simp] theorem finalize_decRes : (finalize s).decRes = s.decRes := rfl
@[simp] theorem finalize_rxState : (finalize s).rxState = .off := rfl
@[simp] theorem finalize_rxBuf : (finalize s).rxBuf = s.rxBuf := rfl
@[simp] theorem finalize_rxCnt : (finalize s).rxCnt = s.rxCnt := rfl
@[simp] theorem finalize_rxOvf : (finalize s).rxOvf = s.rxOvf := rfl
@[simp] theorem finalize_rxPrep : (finalize s).rxPrep = s.missesSentinel := rfl
@[simp] theorem finalize_qrem : (finalize s).qrem = s.qrem := rfl
@[simp] theorem finalize_orem : (finalize s).orem = s.orem := rfl
@[simp] theorem finalize_rxRes : (finalize s).rxRes = s.finalResult := rfl
@[simp] theorem finalize_transport : (finalize s).transport = s.transport := rfl
@[simp] theorem finalize_inputs : (finalize s).inputs = s.inputs := rfl

end finalize

section blank

variable (st : Status)

@[simp] theorem ResultRecord.blank_status : (ResultRecord.blank st).status = st := rfl
@[simp] theorem ResultRecord.blank_src : (ResultRecord.blank st).src = 0 := rfl
@[simp] theorem ResultRecord.blank_dst : (ResultRecord.blank st).dst = 0 := rfl
@[simp] theorem ResultRecord.blank_cmd : (ResultRecord.blank st).cmd = 0 := rfl
@[simp] theorem ResultRecord.blank_len : (ResultRecord.blank st).len = 0 := rfl
@[simp] theorem ResultRecord.blank_plen : (ResultRecord.blank st).plen = 0 := rfl
@[simp] theorem ResultRecord.blank_payload : (ResultRecord.blank st).payload = Buffer.zero 252 := rfl

end blank

/-- The collected bytes, the candidate and the result of Finalize depend on the receive buffer alone: the two counters
play no part. -/
@[simp] theorem State.countQuiet_finalResult : s.countQuiet.finalResult = s.finalResult := rfl
@[simp] theorem State.countDeadline_finalResult : s.countDeadline.finalResult = s.finalResult := rfl
@[simp] theorem State.countQuiet_missesSentinel : s.countQuiet.missesSentinel = s.missesSentinel := rfl
@[simp] theorem State.countDeadline_missesSentinel : s.countDeadline.missesSentinel = s.missesSentinel := rfl

end Sys2Proof.Machine
end

