-- ==== Sys2Proof/Laws/Step.lean ====
section
/-! SUPPORT. What each shared operation, each meaning with cases, and one step can do: one inversion lemma each. -/

namespace Sys2Proof.Machine

/-- Everything taking a byte can do: the transport holds nothing and nothing changes, or its oldest byte is the one
taken and leaves. -/
theorem takeOldest_some {s t : State} {b : Byte} (h : s.takeOldest b = some t) :
    (s.transport = [] ∧ t = s) ∨ (∃ rest, s.transport = b :: rest ∧ t = s.setTransport rest) := by
  unfold State.takeOldest at h
  split at h
  · exact .inl ⟨by assumption, (Option.some.inj h).symm⟩
  · rename_i oldest rest heq
    split at h
    · rename_i hb
      exact .inr ⟨rest, hb ▸ heq, (Option.some.inj h).symm⟩
    · cases h

/-- A byte is taken when the transport holds none, or holds it first. -/
theorem takeOldest_isSome {s : State} {b : Byte} (h : s.transport = [] ∨ s.transport.head? = some b) :
    s.takeOldest b = some (s.setTransport s.transport.tail) := by
  unfold State.takeOldest
  split
  · next heq => cases s; simp_all [State.setTransport]
  · next oldest rest heq =>
    have hb : oldest = b := by simpa [heq] using h
    simp [hb, heq]

/-- Everything RX_ARM can do (R112 to R114). -/
theorem execRxArm_next {t : Ticks} {s s' : State} (h : execRxArm t s = .next s') :
    (t = 0 ∧ s' = s.setCmdStatus .badOperand) ∨
    (t ≠ 0 ∧ s.rxState = .off ∧ s' = (s.setCmdStatus .ok).startReceive t) ∨
    (t ≠ 0 ∧ s.rxState ≠ .off ∧ s' = s.setCmdStatus .busy) := by
  unfold execRxArm at h
  split at h
  · cases h; exact .inl ⟨by assumption, rfl⟩
  · split at h <;> cases h
    · exact .inr (.inl ⟨by assumption, by assumption, rfl⟩)
    · exact .inr (.inr ⟨by assumption, by simp_all, rfl⟩)
    · exact .inr (.inr ⟨by assumption, by simp_all, rfl⟩)

/-- Everything RX_BYTE can do when it answers a next state (R117 to R119). -/
theorem execRxByte_next {b : Byte} {s s' : State} (h : execRxByte b s = .next s') :
    ∃ s1, s.takeOldest b = some s1 ∧
      ((s.rxState = .idle ∧ s' = collectFirst b s1) ∨
       (s.rxState = .collecting ∧ s.rxCnt.toNat < maxFrame ∧ s' = (s1.storeByte s1.rxCnt b).restartQuiet) ∨
       (s.rxState = .collecting ∧ maxFrame ≤ s.rxCnt.toNat ∧ s' = s1.markOverflow.restartQuiet)) := by
  have keep : ∀ s1, s.takeOldest b = some s1 → s1.rxCnt = s.rxCnt := by
    intro s1 h1
    rcases takeOldest_some h1 with ⟨-, rfl⟩ | ⟨rest, -, rfl⟩ <;> rfl
  unfold execRxByte at h
  split at h
  · cases h
  · split at h
    · cases h; exact ⟨_, by assumption, .inl ⟨by assumption, rfl⟩⟩
    · cases h
  · split at h
    · rename_i s1 h1
      cases h
      refine ⟨s1, h1, .inr ?_⟩
      unfold collectNext
      rw [keep s1 h1]
      split
      · exact .inl ⟨by assumption, by assumption, rfl⟩
      · exact .inr ⟨by assumption, by omega, rfl⟩
    · cases h

/-- Everything TICK can do: it always answers a next state (R123 to R131). -/
theorem execTick_next {s s' : State} (h : execTick s = .next s') :
    (s.rxState = .off ∧ s' = s) ∨
    (s.rxState = .idle ∧ s.orem - 1 ≠ 0 ∧ s' = s.countDeadline) ∨
    (s.rxState = .idle ∧ s.orem - 1 = 0 ∧ s' = s.countDeadline.endReceive (.blank .noData)) ∨
    (s.rxState = .collecting ∧ s.qrem - 1 ≠ 0 ∧ s.orem - 1 ≠ 0 ∧ s' = s.countQuiet.countDeadline) ∨
    (s.rxState = .collecting ∧ (s.qrem - 1 = 0 ∨ (s.orem - 1 = 0 ∧ s.cfg.policy = .finalize)) ∧
      s' = finalize s.countQuiet.countDeadline) ∨
    (s.rxState = .collecting ∧ s.qrem - 1 ≠ 0 ∧ s.orem - 1 = 0 ∧ s.cfg.policy = .fail ∧
      s' = s.countQuiet.countDeadline.endReceive (.blank .timeout)) := by
  unfold execTick at h
  split at h
  · cases h; exact .inl ⟨by assumption, rfl⟩
  · cases h
    unfold tickIdle
    split
    · exact .inr (.inr (.inl ⟨by assumption, by assumption, rfl⟩))
    · exact .inr (.inl ⟨by assumption, by assumption, rfl⟩)
  · cases h
    unfold tickCollecting
    split
    · exact .inr (.inr (.inr (.inr (.inl ⟨by assumption, .inl (by assumption), rfl⟩))))
    · split
      · unfold deadlineWhileCollecting
        split
        · exact .inr (.inr (.inr (.inr (.inr ⟨by assumption, by assumption, by assumption, by assumption, rfl⟩))))
        · exact .inr (.inr (.inr (.inr (.inl ⟨by assumption, .inr ⟨by assumption, by assumption⟩, rfl⟩))))
      · exact .inr (.inr (.inr (.inl ⟨by assumption, by assumption, by assumption, rfl⟩)))

/-- What a meaning can see of the model's own fields: exec reads `inputs` nowhere and never changes it, nor the
configuration. -/
theorem exec_keeps_cfg_inputs {i : Instr} {s s' : State} (h : exec i s = .next s') :
    s'.cfg = s.cfg ∧ s'.inputs = s.inputs := by
  cases i with
  | nop => cases h; exact ⟨rfl, rfl⟩
  | encode ss dd cc p =>
    simp only [exec, execEncode] at h
    split at h <;> cases h <;> exact ⟨rfl, rfl⟩
  | decode b => cases h; exact ⟨rfl, rfl⟩
  | rxArm t => rcases execRxArm_next h with ⟨-, rfl⟩ | ⟨-, -, rfl⟩ | ⟨-, -, rfl⟩ <;> exact ⟨rfl, rfl⟩
  | reset => cases h; exact ⟨rfl, rfl⟩
  | reservedCmd m => cases h; exact ⟨rfl, rfl⟩
  | rxByte b =>
    obtain ⟨s1, h1, hc⟩ := execRxByte_next h
    rcases takeOldest_some h1 with ⟨-, rfl⟩ | ⟨rest, -, rfl⟩ <;>
      rcases hc with ⟨-, rfl⟩ | ⟨-, -, rfl⟩ | ⟨-, -, rfl⟩ <;> exact ⟨rfl, rfl⟩
  | tick =>
    rcases execTick_next h with ⟨-, rfl⟩ | ⟨-, -, rfl⟩ | ⟨-, -, rfl⟩ | ⟨-, -, -, rfl⟩ | ⟨-, -, rfl⟩ | ⟨-, -, -, -, rfl⟩ <;>
      exact ⟨rfl, rfl⟩
  | reservedEvent tag data => cases h

/-- Everything one step can do when it answers a next state. -/
theorem step_next {s s' : State} (h : step s = .next s') :
    s.cfg.legal = true ∧
    ((nextOp s = .wait ∧ s' = s) ∨
     (∃ i s1, nextOp s = .run i s1 ∧ exec i s1 = .next s') ∨
     (∃ s1, nextOp s = .reject s1 ∧ s' = s1.setCmdStatus .badOperand) ∨
     (∃ a s1, nextOp s = .environment a s1 ∧ s' = applyEnv a s1)) := by
  unfold step at h
  split at h
  · rename_i hl
    refine ⟨hl, ?_⟩
    split at h
    · cases h; exact .inl ⟨by assumption, rfl⟩
    · exact .inr (.inl ⟨_, _, by assumption, h⟩)
    · cases h; exact .inr (.inr (.inl ⟨_, by assumption, rfl⟩))
    · cases h; exact .inr (.inr (.inr ⟨_, _, by assumption, rfl⟩))
    · cases h
  · cases h

/-- Where the next operation comes from: a byte the delivery priority delivers, the inputs untouched; or the first item
presented, which leaves the inputs. -/
theorem nextOp_run {s s1 : State} {i : Instr} (h : nextOp s = .run i s1) :
    (∃ b, s.priorityByte = some b ∧ i = .rxByte b ∧ s1 = s) ∨
    (s.priorityByte = none ∧ ∃ x rest, s.inputs = x :: rest ∧ s1 = s.setInputs rest ∧
      ((∃ m, x = .port m ∧ decodeMessage m = .instr i) ∨ (∃ e, x = .event e ∧ decodeEvent e = .instr i))) := by
  unfold nextOp at h
  split at h
  · cases h; exact .inl ⟨_, by assumption, rfl, rfl⟩
  · rename_i hp
    refine .inr ⟨hp, ?_⟩
    unfold presentedOp at h
    split at h
    · cases h
    · split at h <;> cases h
      exact ⟨_, _, by assumption, rfl, .inl ⟨_, rfl, by assumption⟩⟩
    · split at h <;> cases h
      exact ⟨_, _, by assumption, rfl, .inr ⟨_, rfl, by assumption⟩⟩
    · cases h

/-- A message of the wrong length, and an environment's action, leave the inputs and touch nothing else. -/
theorem nextOp_reject {s s1 : State} (h : nextOp s = .reject s1) :
    ∃ m rest, s.inputs = .port m :: rest ∧ decodeMessage m = .badOperand ∧ s1 = s.setInputs rest := by
  unfold nextOp at h
  split at h
  · cases h
  · unfold presentedOp at h
    split at h
    · cases h
    · split at h <;> cases h
      exact ⟨_, _, by assumption, by assumption, rfl⟩
    · split at h <;> cases h
    · cases h

theorem nextOp_environment {s s1 : State} {a : EnvAction} (h : nextOp s = .environment a s1) :
    ∃ rest, s.inputs = .env a :: rest ∧ s1 = s.setInputs rest := by
  unfold nextOp at h
  split at h
  · cases h
  · unfold presentedOp at h
    split at h
    · cases h
    · split at h <;> cases h
    · split at h <;> cases h
    · cases h; exact ⟨_, by assumption, rfl⟩

end Sys2Proof.Machine
end

