-- ==== Sys2Proof/Tests/Slice0.lean ====
section
/-! SUPPORT. Tests: ill-formed operations are refused, words written out from the layouts decode, the spec's vectors
(95_test_vectors.md, named at each test) come out, and every statement's hypotheses are met by a concrete case. -/

namespace Sys2Proof.Tests

open Sys2Proof Sys2Proof.Machine

/-- The outcome is a next state of which `p` holds. -/
def holds (o : Host.Outcome State Fault Refusal) (p : State → Bool) : Bool :=
  match o with
  | .next t => p t
  | .fault _ => false
  | .refused _ => false

/-- The outcome is this refusal. -/
def refuses (o : Host.Outcome State Fault Refusal) (r : Refusal) : Bool :=
  match o with
  | .next _ => false
  | .fault _ => false
  | .refused r' => decide (r' = r)

/-- The block after power-on with a quiet interval of 2 ticks. -/
def off : State := { State.reset with cfg := { qTicks := 2, policy := .fail } }

/-- The same block in IDLE with `orem` ticks left. -/
def idle (orem : Ticks) : State := { off with rxState := .idle, orem := orem }

/-- The block in COLLECTING with these bytes and timers, and a quiet interval of 2 ticks. -/
def collecting (policy : DeadlinePolicy) (bytes : List Byte) (qrem orem : Ticks) : State :=
  { idle orem with
    cfg := { qTicks := 2, policy := policy }
    rxState := .collecting
    rxBuf := Buffer.ofList 258 bytes
    rxCnt := BitVec.ofNat 9 bytes.length
    qrem := qrem }

/-- The block in IDLE with bytes waiting and items presented. -/
def presented (held : List Byte) (items : List Input) : State := { idle 5 with transport := held, inputs := items }

/-- The literal vector's frame (W1). -/
def literalFrame : List Byte := [0x3B, 0x03, 0x20, 0x12, 0xFE, 0xCD]

/-- The response of W8. -/
def responseFrame : List Byte := [0x3B, 0x05, 0x12, 0x20, 0xFE, 0x07, 0x0B, 0xB9]

/-! ### Well-formedness: one ill-formed term for each check -/

theorem test_payload_256_ill_formed : WellFormed (.encode 0x20 0x12 0xFE (List.replicate 256 0)) = false := by
  decide +kernel
theorem test_buffer_65536_ill_formed : WellFormed (.decode (List.replicate 65536 0)) = false := by
  rw [WellFormed, fitsBufferOperand, List.length_replicate]
  decide
theorem test_reservedCmd_of_defined_opcode_ill_formed : WellFormed (.reservedCmd [0x04]) = false := by decide
theorem test_reservedEvent_of_defined_tag_ill_formed : WellFormed (.reservedEvent 0x81 []) = false := by decide
theorem test_payload_255_well_formed : WellFormed (.encode 0 0 0 (List.replicate 255 0)) = true := by decide +kernel
theorem test_buffer_65535_well_formed : WellFormed (.decode (List.replicate 65535 0)) = true := by
  rw [WellFormed, fitsBufferOperand, List.length_replicate]
  decide

/-! ### Decoding: words from the layouts of R70 to R77 and the encodings of 95_test_vectors.md -/

theorem test_decode_nop : decodeMessage [0b00000000] = .instr .nop := by decide
theorem test_decode_encode : decodeMessage [0x01, 0x12, 0x20, 0xFE, 0x02, 0x07, 0x0B] =
    .instr (.encode 0x12 0x20 0xFE [0x07, 0x0B]) := by decide
theorem test_decode_decode : decodeMessage [0x02, 0x00, 0x06, 0x3B, 0x03, 0x20, 0x12, 0xFE, 0xCD] =
    .instr (.decode literalFrame) := by decide
theorem test_decode_decode_length_big_endian :
    decodeMessage (0x02 :: 0x01 :: 0x02 :: List.replicate 258 0x3B) = .instr (.decode (List.replicate 258 0x3B)) := by
  decide +kernel
theorem test_decode_rxArm : decodeMessage [0x03, 0x07, 0xD0] = .instr (.rxArm 2000) := by decide
theorem test_decode_reset : decodeMessage [0b00000100] = .instr .reset := by decide
/-- V4.3 to V4.6: an empty message, reserved opcodes, and an event tag on the port. -/
theorem test_decode_reserved_messages :
    decodeMessage [] = .instr (.reservedCmd []) ∧ decodeMessage [0x05] = .instr (.reservedCmd [0x05]) ∧
    decodeMessage [0x06, 0x00] = .instr (.reservedCmd [0x06, 0x00]) ∧
    decodeMessage [0x80, 0x00] = .instr (.reservedCmd [0x80, 0x00]) := by decide
/-- V4.2, V4.7 to V4.9, V4.11, V4.16. -/
theorem test_decode_wrong_lengths :
    decodeMessage [0x00, 0x00] = .badOperand ∧ decodeMessage [0x01, 0x20, 0x12, 0xFE, 0x01] = .badOperand ∧
    decodeMessage [0x01, 0x00, 0x00, 0x02, 0x00, 0x00] = .badOperand ∧
    decodeMessage [0x02, 0x00, 0x01] = .badOperand ∧ decodeMessage [0x03, 0x00] = .badOperand ∧
    decodeMessage [0x04, 0x01] = .badOperand := by decide
theorem test_decode_rxByte : decodeEvent [0b10000000, 0x3B] = .instr (.rxByte 0x3B) := by decide
theorem test_decode_tick : decodeEvent [0b10000001] = .instr .tick := by decide
theorem test_decode_reservedEvent : decodeEvent [0x82, 0x01] = .instr (.reservedEvent 0x82 [0x01]) ∧
    decodeEvent [0xFF] = .instr (.reservedEvent 0xFF []) := by decide
theorem test_decode_events_of_no_layout :
    decodeEvent [] = .illFormedEvent ∧ decodeEvent [0x80] = .illFormedEvent ∧
    decodeEvent [0x81, 0x00] = .illFormedEvent ∧ decodeEvent [0x05] = .illFormedEvent := by decide
theorem test_table_words :
    decodeTableWord 8 0x00 = some .nop ∧ decodeTableWord 8 0x01 = some (.encode 0 0 0 []) ∧
    decodeTableWord 8 0x02 = some (.decode []) ∧ decodeTableWord 8 0x03 = some (.rxArm 0) ∧
    decodeTableWord 8 0x04 = some .reset ∧ decodeTableWord 8 0x05 = some (.reservedCmd [0x05]) ∧
    decodeTableWord 8 0x80 = some (.rxByte 0) ∧ decodeTableWord 8 0x81 = some .tick ∧
    decodeTableWord 8 0x82 = some (.reservedEvent 0x82 []) ∧ decodeTableWord 24 0xD00703 = some (.rxArm 2000) := by
  decide
theorem test_encode_words :
    encode (.encode 0x20 0x12 0x02 [0x00, 0x12, 0x34]) = [0x01, 0x20, 0x12, 0x02, 0x03, 0x00, 0x12, 0x34] ∧
    encode (.decode [0x3B, 0x05]) = [0x02, 0x00, 0x02, 0x3B, 0x05] ∧
    encode (.rxArm 2000) = [0x03, 0x07, 0xD0] ∧ encode (.rxByte 0x05) = [0x80, 0x05] := by decide

/-! ### One step each: the vectors of 95_test_vectors.md -/

/-- V1. -/
theorem test_checksum_vectors :
    checksum [] = 0x00 ∧ checksum [0x03, 0x20, 0x12, 0xFE] = 0xCD ∧
    checksum [0x06, 0xFF, 0xFF, 0xFF, 0xFF, 0xFF, 0xFF] = 0x00 ∧
    checksum [0x06, 0xFF, 0xFF, 0xFF, 0xFF, 0xFF] = 0xFF ∧ lenfield 56 = 0x3B ∧ lenfield 252 = 0xFF := by decide
/-- R141. -/
theorem test_status_codes :
    Status.ok.code = 0x00 ∧ Status.tooShort.code = 0x01 ∧ Status.badHeader.code = 0x02 ∧
    Status.sizeMismatch.code = 0x03 ∧ Status.checksumMismatch.code = 0x04 ∧ Status.payloadTooLarge.code = 0x05 ∧
    Status.noData.code = 0x06 ∧
    Status.timeout.code = 0x07 ∧ Status.badOperand.code = 0x0D ∧ Status.busy.code = 0x0E ∧
    Status.badOp.code = 0x0F ∧ Status.none.code = 0xFF := by decide
/-- R88. -/
theorem test_nop : holds (exec .nop State.reset) (fun t => t.cmdStatus = .ok) = true := by decide
/-- W1. -/
theorem test_encode_literal_vector : holds (exec (.encode 0x20 0x12 0xFE []) State.reset) (fun t =>
    t.txBuf.take 7 = literalFrame ++ [0x00] ∧ t.txLen = 6 ∧ t.encStatus = .ok) = true := by decide +kernel
/-- V2.16: the largest frame. -/
theorem test_encode_largest : holds (exec (.encode 0x20 0x12 0x02 (List.replicate 252 0xFF)) State.reset) (fun t =>
    t.txBuf.get 1 = 0xFF ∧ t.txBuf.get 257 = 0xC9 ∧ t.txLen = 258) = true := by decide +kernel
/-- V3.2. -/
theorem test_decode_record : holds (exec (.decode responseFrame) State.reset) (fun t =>
    t.decRes.status = .ok ∧ t.decRes.src = 0x12 ∧ t.decRes.dst = 0x20 ∧ t.decRes.len = 5 ∧ t.decRes.plen = 2 ∧
    t.decRes.payload.take 3 = [0x07, 0x0B, 0x00]) = true := by decide +kernel
/-- V3.5, V3.6, V3.8, V3.9, V3.11, V3.15, V3.16. -/
theorem test_decode_errors :
    decodeFrame [0x3B, 0x03, 0x20, 0x12, 0xFE] = .error .tooShort ∧ decodeFrame [0x00, 0x01] = .error .tooShort ∧
    decodeFrame [0x00, 0x03, 0x20, 0x12, 0xFE, 0xCD, 0x00] = .error .badHeader ∧
    decodeFrame [0x3B, 0x03, 0x20, 0x12, 0xFE, 0xCD, 0x00] = .error .sizeMismatch ∧
    decodeFrame [0x3B, 0x00, 0x01, 0x02, 0x03, 0x04] = .error .sizeMismatch ∧
    decodeFrame [0x3B, 0x03, 0xA0, 0x12, 0xFE, 0xCD] = .error .checksumMismatch ∧
    decodeFrame [0x3B, 0x03, 0x20, 0x12, 0xFE, 0xCC] = .error .checksumMismatch := by decide
/-- V3.7 and V3.15, as DEC_RES.STATUS holds them. -/
theorem test_decode_error_codes :
    holds (exec (.decode [0x3A, 0x03, 0x20, 0x12, 0xFE, 0xCD]) State.reset) (fun t =>
      t.decRes.status.code = 0x02) = true ∧
    holds (exec (.decode [0x3B, 0x03, 0xA0, 0x12, 0xFE, 0xCD]) State.reset) (fun t =>
      t.decRes.status.code = 0x04) = true := by
  decide +kernel
/-- V5.1. -/
theorem test_rxArm : holds (exec (.rxArm 2000) State.reset) (fun t =>
    t.cmdStatus = .ok ∧ t.rxState = .idle ∧ t.orem = 2000 ∧ t.rxReady ∧ !t.rxDone) = true := by decide +kernel
/-- V4.14, V4.15. -/
theorem test_rxArm_rejections :
    holds (exec (.rxArm 0) (idle 100)) (fun t => t.cmdStatus = .badOperand) = true ∧
    holds (exec (.rxArm 1) (idle 100)) (fun t => t.cmdStatus = .busy ∧ t.orem = 100) = true := by decide
/-- The example of R117, with a quiet interval of 2. -/
theorem test_rxByte_first : holds (exec (.rxByte 0x05) (idle 1997)) (fun t =>
    t.rxState = .collecting ∧ t.rxBuf.get 0 = 0x05 ∧ t.rxCnt = 1 ∧ t.qrem = 2 ∧ t.orem = 1997) = true := by
  decide +kernel
/-- R121. -/
theorem test_rxByte_while_off : refuses (exec (.rxByte 0x05) State.reset) .rxByteWhileOff = true := by decide
/-- V6.2: the sentinel was dropped. -/
theorem test_tick_prepends : holds (exec .tick (collecting .fail responseFrame.tail 1 9)) (fun t =>
    t.rxState = .off ∧ t.rxPrep ∧ t.rxRes.status = .ok ∧ t.rxRes.cmd = 0xFE ∧ t.orem = 8) = true := by decide +kernel
/-- V6.8, V6.11, V6.12: the deadline on the last tick of the quiet period, and before it, with both policies. -/
theorem test_tick_deadlines :
    holds (exec .tick (collecting .fail literalFrame 1 1)) (fun t => t.rxRes.status = .ok) = true ∧
    holds (exec .tick (collecting .fail literalFrame 2 1)) (fun t => t.rxRes.status = .timeout ∧ t.qrem = 1) = true ∧
    holds (exec .tick (collecting .finalize literalFrame 2 1)) (fun t => t.rxRes.status = .ok) = true := by
  decide +kernel
/-- P6: RESET during a receive. -/
theorem test_reset : holds (exec .reset (collecting .fail [0x3B, 0x03] 2 9)) (fun t =>
    t.rxState = .off ∧ t.rxCnt = 0 ∧ t.rxRes.status = .none ∧ t.cmdStatus = .ok ∧ !t.rxDone) = true := by decide +kernel
/-- V4.4. -/
theorem test_reservedCmd : holds (exec (.reservedCmd [0x05]) State.reset) (fun t => t.cmdStatus = .badOp) = true := by
  decide
/-- R77. -/
theorem test_reservedEvent : refuses (exec (.reservedEvent 0x82 []) (idle 1)) .reservedEventTag = true := by decide

/-! ### Concrete cases that meet the hypotheses of the statements -/

theorem witness_ResetForgetsThePast :
    SameSurroundings State.reset ((State.reset.setCmdStatus .busy).startReceive 7) := ⟨rfl, rfl, rfl⟩

theorem witness_NopOnlyAcknowledges : (presented [] [.port [0x00, 0x00]]).cfg.qTicks ≠ 0 ∧
    (presented [] [.port [0x00, 0x00]]).inputs = .port (0x00 :: 0x00 :: []) :: [] := by decide

theorem witness_EncodeWritesFrame :
    ([] : List Byte).length ≤ 252 ∧ (List.replicate 252 (0xFF : Byte)).length ≤ 252 := by decide +kernel

theorem witness_EncodeRefusesLongPayload :
    252 < (List.replicate 253 (0 : Byte)).length ∧ 252 < (List.replicate 255 (0 : Byte)).length := by decide +kernel

/-- Also for DecodeEncodeFrameRoundTrip. -/
theorem witness_FrameBytesSumToZero : encodeFrame 0x20 0x12 0xFE [] = some literalFrame ∧
    decodeFrame literalFrame = .frame { src := 0x20, dst := 0x12, cmd := 0xFE, len := 3, payload := [] } := by decide

theorem witness_WrappingAccumulatorGivesChecksum : (List.replicate 252 (0xFF : Byte)).length ≤ 252 := by decide +kernel

theorem witness_EncodeFrameInjective :
    encodeFrame 0x12 0x20 0xFE [0x07, 0x0B] = some responseFrame ∧
    encodeFrame 0x12 0x20 0xFE [0x07, 0x0B] = some responseFrame := by decide

/-- The smallest and the largest frame. -/
theorem witness_DecodeEncodeFrameRoundTrip : encodeFrame 0x20 0x12 0xFE [] = some literalFrame ∧
    (encodeFrame 0xFF 0xFF 0xFF (List.replicate 252 0xFF)).isSome = true := by decide +kernel

/-- Both clauses: a frame and each error. -/
theorem witness_DecodeWritesRecord :
    decodeFrame responseFrame = .frame { src := 0x12, dst := 0x20, cmd := 0xFE, len := 5, payload := [0x07, 0x0B] } ∧
    decodeFrame [] = .error .tooShort ∧
    decodeFrame [0x3A, 0x03, 0x20, 0x12, 0xFE, 0xCD] = .error .badHeader ∧
    decodeFrame [0x3B, 0x02, 0x20, 0x12, 0xFE, 0xCD] = .error .sizeMismatch ∧
    decodeFrame [0x3B, 0x03, 0x20, 0x12, 0xFE, 0xCC] = .error .checksumMismatch := by decide

theorem witness_EncodeDecodeFrameRoundTrip :
    decodeFrame [0x3B, 0x04, 0x3B, 0x3B, 0x3B, 0x3B, 0x10] =
      .frame { src := 0x3B, dst := 0x3B, cmd := 0x3B, len := 4, payload := [0x3B] } := by decide

/-- Each clause: an accepted frame; length fields 0 and 2, with each of the three errors; 259 bytes, with and without
the sentinel; two frames. -/
theorem witness_AcceptedBufferBounds :
    decodeFrame literalFrame = .frame { src := 0x20, dst := 0x12, cmd := 0xFE, len := 3, payload := [] } ∧
    (byteAt [0x3B, 0x02, 0x00, 0x00, 0x00] 1).toNat ≤ 2 ∧
    (byteAt [0x3B, 0x02, 0x20, 0x12, 0xFE, 0xCD] 1).toNat ≤ 2 ∧
    (byteAt [0x00, 0x00, 0x01, 0x02, 0x03, 0x04] 1).toNat ≤ 2 ∧
    258 < (0x3B :: List.replicate 258 (0xFF : Byte)).length ∧ 258 < (List.replicate 259 (0 : Byte)).length := by
  decide +kernel

/-- Offsets 0, 1, 2 and the last. -/
theorem witness_SingleByteChangeDetected :
    decodeFrame literalFrame = .frame { src := 0x20, dst := 0x12, cmd := 0xFE, len := 3, payload := [] } ∧
    (0 < literalFrame.length ∧ (0x3A : Byte) ≠ byteAt literalFrame 0) ∧
    (1 < literalFrame.length ∧ (0x04 : Byte) ≠ byteAt literalFrame 1) ∧
    (2 < literalFrame.length ∧ (0xA0 : Byte) ≠ byteAt literalFrame 2) ∧
    (5 < literalFrame.length ∧ (0xCC : Byte) ≠ byteAt literalFrame 5) := by decide

/-- V3.18: two payload bytes swapped. -/
theorem witness_ReorderingNotDetected :
    decodeFrame responseFrame = .frame { src := 0x12, dst := 0x20, cmd := 0xFE, len := 5, payload := [0x07, 0x0B] } ∧
    [0x12, 0x20, 0xFE, 0x0B, 0x07].Perm (slice responseFrame 2 ((5 : Byte).toNat + 1)) := by decide

theorem witness_RxArmStartsReceive : (1 : Ticks) ≠ 0 ∧ (0xFFFF : Ticks) ≠ 0 ∧ State.reset.rxState = .off := by decide

/-- Each disjunct: T = 0 while OFF and in IDLE; a receive in IDLE and in COLLECTING. -/
theorem witness_RxArmRejections :
    ((0 : Ticks) = 0 ∨ State.reset.rxState ≠ .off) ∧ ((0 : Ticks) = 0 ∨ (idle 5).rxState ≠ .off) ∧
    ((1 : Ticks) = 0 ∨ (idle 5).rxState ≠ .off) ∧
    ((1 : Ticks) = 0 ∨ (collecting .fail [0x3B] 2 5).rxState ≠ .off) := by decide

/-- With an empty transport and with the byte in front. -/
theorem witness_FirstByteStartsCollecting :
    (idle 5).rxState = .idle ∧ (idle 5).transport = [] ∧
    (presented [0x05, 0x12] []).rxState = .idle ∧ (presented [0x05, 0x12] []).transport.head? = some 0x05 := by decide

/-- RX_CNT 1 and 257. -/
theorem witness_FurtherByteAppends :
    (collecting .fail [0x3B] 2 5).rxState = .collecting ∧ (collecting .fail [0x3B] 2 5).rxCnt.toNat < 258 ∧
    (collecting .fail [0x3B] 2 5).transport = [] ∧
    (collecting .fail (List.replicate 257 0) 2 5).rxCnt.toNat = 257 := by decide +kernel

theorem witness_ByteBeyondCapacityOverflows :
    (collecting .fail (List.replicate 258 0) 2 5).rxState = .collecting ∧
    258 ≤ (collecting .fail (List.replicate 258 0) 2 5).rxCnt.toNat ∧
    (collecting .fail (List.replicate 258 0) 2 5).transport = [] := by decide +kernel

/-- Both clauses: a byte taken in IDLE and in COLLECTING; a TICK and a RESET that end a receive. -/
theorem witness_ByteTakenNeverEndsReceive :
    holds (exec (.rxByte 0x05) (idle 5)) (fun _ => true) = true ∧
    holds (exec (.rxByte 0x05) (collecting .fail [0x3B] 1 5)) (fun _ => true) = true ∧
    (idle 1).rxState ≠ .off ∧ holds (exec .tick (idle 1)) (fun t => t.rxState = .off) = true ∧
    holds (exec .reset (idle 1)) (fun t => t.rxState = .off) = true := by decide +kernel

theorem witness_RxByteRefusals : State.reset.rxState = .off ∧ (presented [0x3B] []).rxState ≠ .off ∧
    (presented [0x3B] []).transport = [0x3B] ∧ (0x3B : Byte) ≠ 0x05 := by decide

theorem witness_TickWhileOffChangesNothing : State.reset.rxState = .off := by decide

/-- The last tick and the one before it. -/
theorem witness_TickInIdleCountsDeadline :
    ((idle 1).rxState = .idle ∧ (idle 1).orem ≠ 0 ∧ (idle 1).orem.toNat = 1) ∧
    ((idle 2).rxState = .idle ∧ (idle 2).orem ≠ 0 ∧ (idle 2).orem.toNat ≠ 1) := by decide

theorem witness_TickInCollectingCountsBoth : (collecting .fail [0x3B] 2 2).rxState = .collecting ∧
    1 < (collecting .fail [0x3B] 2 2).qrem.toNat ∧ 1 < (collecting .fail [0x3B] 2 2).orem.toNat := by decide

/-- Each disjunct, with the sentinel, without it, and after an overflow. -/
theorem witness_TickFinalizes :
    ((collecting .fail [0x3B] 1 1).rxState = .collecting ∧ (collecting .fail [0x3B] 1 1).qrem = 1 ∧
      (collecting .fail [0x3B] 1 1).rxBuf.get 0 = 0x3B ∧ (collecting .fail [0x3B] 1 1).rxOvf = false) ∧
    (1 < (collecting .finalize [0x42] 2 1).qrem.toNat ∧ (collecting .finalize [0x42] 2 1).orem = 1 ∧
      (collecting .finalize [0x42] 2 1).cfg.policy = .finalize ∧
      (collecting .finalize [0x42] 2 1).rxBuf.get 0 ≠ 0x3B) ∧
    (collecting .fail (List.replicate 258 0) 1 9).markOverflow.rxOvf = true := by decide +kernel

theorem witness_TickTimesOut : (collecting .fail [0x42] 2 1).rxState = .collecting ∧
    1 < (collecting .fail [0x42] 2 1).qrem.toNat ∧ (collecting .fail [0x42] 2 1).orem = 1 ∧
    (collecting .fail [0x42] 2 1).cfg.policy = .fail := by decide

theorem witness_OverflowMatchesUnboundedBuffer :
    (collecting .fail (0x3B :: List.replicate 257 0) 1 9).markOverflow.rxCnt.toNat = 258 ∧ ([0x00] : List Byte) ≠ [] ∧
    (collecting .fail (0x3B :: List.replicate 257 0) 1 9).markOverflow.rxOvf = true := by decide +kernel

/-- A receive that ends in IDLE; and in COLLECTING with 5 bytes and the sentinel prepended, so 6 in the candidate. -/
theorem witness_ReceiveErrorsFromCandidate :
    ((idle 1).rxState ≠ .off ∧ holds (exec .tick (idle 1)) (fun t => t.rxState = .off) = true) ∧
    (collecting .fail literalFrame.tail 1 9).rxCnt ≠ 0 ∧
    (collecting .fail literalFrame.tail 1 9).rxState = .collecting ∧
    holds (exec .tick (collecting .fail literalFrame.tail 1 9)) (fun t =>
      t.rxState = .off ∧ t.rxRes.status ≠ .timeout) = true := by decide +kernel

/-- Both clauses, the second with RESET and with RX_ARM. -/
theorem witness_DoneFromEndUntilRearmed :
    ((idle 1).rxState ≠ .off ∧ holds (exec .tick (idle 1)) (fun t => t.rxState = .off) = true) ∧
    (off.endReceive (.blank .noData)).rxDone = true ∧
    holds (exec .reset (off.endReceive (.blank .noData))) (fun t => t.rxDone = false) = true ∧
    holds (exec (.rxArm 3) (off.endReceive (.blank .noData))) (fun t => t.rxDone = false) = true := by
  decide +kernel

/-- k at T - 1 and at T. -/
theorem witness_NoDataExactlyAtDeadline :
    (3 : Ticks) ≠ 0 ∧ State.reset.rxState = .off ∧ 2 ≤ (3 : Ticks).toNat ∧ 3 ≤ (3 : Ticks).toNat := by decide

/-- k at Q_TICKS - 1 and at Q_TICKS, with OREM the smallest each clause admits. -/
theorem witness_QuietGapLaw :
    ((collecting .fail [0x3B] 2 2).rxState = .collecting ∧
      (collecting .fail [0x3B] 2 2).qrem = (collecting .fail [0x3B] 2 2).cfg.qTicks ∧
      (collecting .fail [0x3B] 2 2).cfg.qTicks ≠ 0) ∧
    (1 < (collecting .fail [0x3B] 2 2).cfg.qTicks.toNat ∧ 1 < (collecting .fail [0x3B] 2 2).orem.toNat) ∧
    ((collecting .fail [0x3B] 2 2).cfg.qTicks.toNat ≤ 2 ∧
      (collecting .fail [0x3B] 2 2).cfg.qTicks.toNat ≤ (collecting .fail [0x3B] 2 2).orem.toNat) := by decide

theorem witness_ReceiveEndsWithinDeadline :
    State.reset.rxState = .off ∧ (3 : Ticks) ≠ 0 ∧ (∀ i ∈ [Instr.tick, .rxByte 0x3B, .tick], isReceiveEvent i = true) ∧
    holds (execAll [.rxArm 3, .tick, .rxByte 0x3B, .tick] State.reset) (fun t => t.rxState ≠ .off) = true := by
  decide +kernel

/-- The literal frame, its first byte 3 ticks after RX_ARM and a gap of 1 before each other, in a block with a quiet
interval of 2: 8 ticks, and 2 more to the deadline. -/
theorem witness_PacedFrameIsReceived :
    off.rxState = .off ∧ off.transport = [] ∧
    off.cfg.qTicks = 2 ∧ encodeFrame 0x20 0x12 0xFE [] = some literalFrame ∧
    [(3, 0x3B), (1, 0x03), (1, 0x20), (1, 0x12), (1, 0xFE), (1, 0xCD)].map Prod.snd = literalFrame ∧
    (∀ x ∈ [((3 : Nat), (0x3B : Byte)), (1, 0x03), (1, 0x20), (1, 0x12), (1, 0xFE), (1, 0xCD)].tail, x.1 < 2) ∧
    scheduleTime [(3, 0x3B), (1, 0x03), (1, 0x20), (1, 0x12), (1, 0xFE), (1, 0xCD)] + 2 ≤ (10 : Ticks).toNat := by
  decide +kernel

/-- The same without the sentinel. -/
theorem witness_DroppedSentinelIsRecovered :
    off.rxState = .off ∧ off.transport = [] ∧
    off.cfg.qTicks = 2 ∧ encodeFrame 0x20 0x12 0xFE [] = some literalFrame ∧
    ([] : List Byte).length ≠ 56 ∧
    [(3, 0x03), (1, 0x20), (1, 0x12), (1, 0xFE), (1, 0xCD)].map Prod.snd = literalFrame.tail ∧
    (∀ x ∈ [((3 : Nat), (0x03 : Byte)), (1, 0x20), (1, 0x12), (1, 0xFE), (1, 0xCD)].tail, x.1 < 2) ∧
    scheduleTime [(3, 0x03), (1, 0x20), (1, 0x12), (1, 0xFE), (1, 0xCD)] + 2 ≤ (9 : Ticks).toNat := by
  decide +kernel

theorem witness_ShortDeadlineTimesOut :
    off.rxState = .off ∧ (1 : Ticks) ≠ 0 ∧
    (1 : Ticks).toNat < off.cfg.qTicks.toNat ∧
    off.cfg.policy = .fail ∧
    (∀ i ∈ [Instr.rxByte 0x3B, .tick], isReceiveEvent i = true) ∧
    holds (execAll [.rxArm 1, .rxByte 0x3B, .tick] off)
      (fun t => t.rxState = .off ∧ t.rxCnt ≠ 0) = true := by decide +kernel

theorem witness_ResultStaysUntilRearmed :
    (off.endReceive (.blank .noData)).rxState = .off ∧
    holds (execAll [.tick, .rxArm 0, .nop] (off.endReceive (.blank .noData))) (fun _ => true) = true ∧
    (∀ i ∈ [Instr.tick, .rxArm 0, .nop], i ≠ .reset) ∧ (∀ T : Ticks, Instr.rxArm 0 = .rxArm T → T = 0) := by
  refine ⟨by decide, by decide +kernel, by decide, fun T h => ?_⟩
  cases h
  rfl

/-- Each disjunct: the empty message, and the opcodes 0x05 and 0xFF. -/
theorem witness_UndefinedOpcodeRejected :
    (presented [] [.port []]).cfg.qTicks ≠ 0 ∧ (presented [] [.port []]).inputs = [.port []] ∧
    5 ≤ (byteAt [0x05] 0).toNat ∧ 5 ≤ (byteAt [0xFF, 0x00] 0).toNat := by decide

/-- Each disjunct, at the lengths beside the right one. -/
theorem witness_WrongLengthRejected :
    (presented [] [.port [0x03, 0x00]]).cfg.qTicks ≠ 0 ∧
    (presented [] [.port [0x03, 0x00]]).inputs = [.port [0x03, 0x00]] ∧
    (byteAt [0x00, 0x00] 0 = 0x00 ∧ [(0x00 : Byte), 0x00].length ≠ 1) ∧
    (byteAt [0x01, 0x20, 0x12, 0xFE] 0 = 0x01 ∧ [(0x01 : Byte), 0x20, 0x12, 0xFE].length < 5) ∧
    (byteAt [0x01, 0x20, 0x12, 0xFE, 0x01] 0 = 0x01 ∧
      [(0x01 : Byte), 0x20, 0x12, 0xFE, 0x01].length ≠ 5 + (byteAt [0x01, 0x20, 0x12, 0xFE, 0x01] 4).toNat) ∧
    (byteAt [0x02, 0x00] 0 = 0x02 ∧ [(0x02 : Byte), 0x00].length < 3) ∧
    (byteAt [0x02, 0x01, 0x00] 0 = 0x02 ∧
      [(0x02 : Byte), 0x01, 0x00].length ≠
        3 + ((byteAt [0x02, 0x01, 0x00] 1).toNat * 256 + (byteAt [0x02, 0x01, 0x00] 2).toNat)) ∧
    (byteAt [0x03, 0x00] 0 = 0x03 ∧ [(0x03 : Byte), 0x00].length ≠ 3) ∧
    (byteAt [0x04, 0x01] 0 = 0x04 ∧ [(0x04 : Byte), 0x01].length ≠ 1) := by decide

/-- Both clauses, the first at both ends of the reserved tags. -/
theorem witness_IllFormedTraceRefused :
    (presented [] [.event [0x82]]).cfg.qTicks ≠ 0 ∧ (presented [] [.event [0x82]]).inputs = [.event (0x82 :: [])] ∧
    0x82 ≤ (0x82 : Byte).toNat ∧ 0x82 ≤ (0xFF : Byte).toNat ∧
    (State.reset.setInputs [.event [0x80, 0x3B]]).inputs = [.event [0x80, 0x3B]] ∧
    (State.reset.setInputs [.event [0x80, 0x3B]]).rxReady = false := by decide

theorem witness_EveryMessageAccepted :
    Instr.nop.isEvent = false ∧ (Instr.encode 0 0 0 []).isEvent = false ∧ (Instr.decode []).isEvent = false ∧
    (Instr.rxArm 0).isEvent = false ∧ Instr.reset.isEvent = false ∧ (Instr.reservedCmd []).isEvent = false ∧
    (Instr.tick.isEvent = false ∨ Instr.tick = .tick) := by decide

/-- Both clauses. -/
theorem witness_MessagesAreIdempotent :
    ((Instr.decode literalFrame).isEvent = false ∧ (∀ T, Instr.decode literalFrame ≠ .rxArm T) ∧
      holds (exec (.decode literalFrame) State.reset) (fun _ => true) = true) ∧
    ((3 : Ticks) ≠ 0 ∧ (4 : Ticks) ≠ 0 ∧ State.reset.rxState = .off ∧
      holds (exec (.rxArm 3) State.reset) (fun _ => true) = true) := by
  refine ⟨⟨rfl, fun T => (nofun), rfl⟩, ?_⟩
  decide +kernel

/-- Each field written by an operation the table of R40 gives it. -/
theorem witness_OnlyListedWriters :
    holds (exec .nop State.reset) (fun t => t.cmdStatus ≠ State.reset.cmdStatus) = true ∧
    holds (exec (.encode 0x20 0x12 0xFE []) State.reset) (fun t => t.txLen ≠ State.reset.txLen) = true ∧
    holds (exec (.decode []) State.reset) (fun t => t.decRes ≠ State.reset.decRes) = true ∧
    holds (exec (.rxByte 0x42) (presented [0x42] [])) (fun t => t.rxState ≠ .idle ∧ t.rxCnt ≠ 0 ∧ t.qrem ≠ 0 ∧
      t.transport ≠ [0x42]) = true ∧
    holds (exec .tick (collecting .fail [0x42] 1 9)) (fun t => t.rxState ≠ .collecting ∧ t.rxPrep ≠ false ∧
      t.orem ≠ 9 ∧ t.rxRes ≠ State.reset.rxRes) = true := by decide +kernel

/-- A DECODE before a TICK, and an ENCODE before an RX_BYTE. -/
theorem witness_CodecCommutesWithReceive :
    isReceiveEvent .tick = true ∧ isReceiveEvent (.rxByte 0x3B) = true ∧
    holds (execAll [.decode literalFrame, .tick] (idle 2)) (fun _ => true) = true ∧
    holds (execAll [.encode 0x20 0x12 0xFE [], .rxByte 0x3B] (idle 2)) (fun _ => true) = true := by decide +kernel

theorem witness_DecodeEncodeInstr :
    WellFormed .nop = true ∧ WellFormed (.encode 0x20 0x12 0xFE [0x3B]) = true ∧
    WellFormed (.decode literalFrame) = true ∧ WellFormed (.rxArm 0xFFFF) = true ∧ WellFormed .reset = true ∧
    WellFormed (.reservedCmd []) = true ∧ WellFormed (.reservedCmd [0xFF]) = true ∧
    WellFormed (.rxByte 0x3B) = true ∧ WellFormed .tick = true ∧ WellFormed (.reservedEvent 0x82 [0x00]) = true := by
  decide

theorem witness_EncodeDecodeInstr :
    decodeMessage [0x01, 0x20, 0x12, 0xFE, 0x00] = .instr (.encode 0x20 0x12 0xFE []) ∧
    decodeEvent [0x80, 0x3B] = .instr (.rxByte 0x3B) := by decide

/-- A message and an event. -/
theorem witness_StepRunsPresentedOperation :
    ((presented [0x3B] [.port [0x04]]).cfg.qTicks ≠ 0 ∧ (presented [0x3B] [.port [0x04]]).inputs = [.port [0x04]] ∧
      (presented [0x3B] [.port [0x04]]).priorityByte = none ∧ decodeMessage [0x04] = .instr .reset) ∧
    ((presented [] [.event [0x81]]).inputs = [.event [0x81]] ∧ (presented [] [.event [0x81]]).priorityByte = none ∧
      decodeEvent [0x81] = .instr .tick) := by decide

/-- A message and an event, the second while bytes wait. -/
theorem witness_FetchWordRunsNext :
    State.reset.cfg.qTicks ≠ 0 ∧ decodeTableWord 24 0xD00703 = some (.rxArm 2000) ∧
    (presented [0x3B] []).cfg.qTicks ≠ 0 ∧ decodeTableWord 8 0x81 = some .tick := by decide

/-- Nothing presented, and a TICK presented. -/
theorem witness_DeliveryPriority :
    ((presented [0x3B, 0x03] []).cfg.qTicks ≠ 0 ∧ (presented [0x3B, 0x03] []).rxReady = true ∧
      (presented [0x3B, 0x03] []).transport = [0x3B, 0x03] ∧ (presented [0x3B, 0x03] []).inputs = []) ∧
    (presented [0x3B, 0x03] [.event [0x81]]).inputs = [.event [0x81]] := by decide

theorem witness_TransportDrainsBeforeTick :
    (presented literalFrame [.event [0x81]]).cfg.qTicks ≠ 0 ∧
    (presented literalFrame [.event [0x81]]).rxReady = true ∧
    (presented literalFrame [.event [0x81]]).inputs = [.event [0x81]] := by decide

/-- Each action. -/
theorem witness_EnvironmentActions :
    (presented [] [.env (.arrive [0x3B])]).cfg.qTicks ≠ 0 ∧
    (presented [] [.env (.arrive [0x3B])]).inputs = [.env (.arrive [0x3B])] ∧
    (presented [0x3B] [.env .flushInput]).inputs = [.env .flushInput] ∧
    (presented [0x3B] [.env .powerOn]).inputs = [.env .powerOn] := by decide

/-- Both clauses. -/
theorem witness_ConfigurationFixed :
    ({ State.reset with cfg := { qTicks := 0, policy := .fail } } : State).cfg.qTicks = 0 ∧
    holds (step (presented [] [.event [0x81]])) (fun _ => true) = true := by decide

/-- A receive in IDLE with a TICK presented. -/
theorem witness_StepKeepsInvariant :
    (presented [] [.event [0x81]]).Inv ∧ holds (step (presented [] [.event [0x81]])) (fun t => t.orem = 4) = true := by
  refine ⟨⟨by decide, by decide, .inr ⟨by decide, ⟨rfl, rfl⟩⟩, ⟨?_, fun _ => rfl⟩, by decide, ⟨?_, fun _ => rfl⟩, by decide,
    fun i _ => Buffer.get_zero 258 i, ?_, by decide, ?_⟩, by decide⟩
  · intro h
    cases h
  · intro h
    cases h
  · intro h
    cases h
  · exact ⟨rfl, rfl, rfl, rfl, rfl, by decide⟩

/-- The turn that ends the last attempt, whose receive has failed. -/
theorem witness_HostAttemptsBounded :
    HostCall.Ok { HostCall.sendCommand 0x12 0xFE [] with attempt := 3, phase := .await } ∧
    systemTurn (.default 0x20) (.host 6) { HostCall.sendCommand 0x12 0xFE [] with attempt := 3, phase := .await }
        (off.endReceive (.blank .noData)) =
      .next ({ HostCall.sendCommand 0x12 0xFE [] with
        attempt := 3, phase := .finished (.commandFailed 3 (.receive .noData)) },
        off.endReceive (.blank .noData)) := by
  refine ⟨⟨by decide, by decide, ?_, ?_⟩, rfl⟩
  · intro n e h
    cases h
  · intro h
    cases h

/-- W9: the first attempt fails and the second begins; and a turn that goes on within an attempt. -/
theorem witness_HostAttemptsBounded_counts :
    systemTurn (.default 0x20) (.host 6) { HostCall.sendCommand 0x12 0xFE [] with phase := .await }
        (off.endReceive (.blank .noData)) =
      .next ({ HostCall.sendCommand 0x12 0xFE [] with attempt := 2, phase := .flush },
        off.endReceive (.blank .noData)) ∧
    systemTurn (.default 0x20) (.host 0) (.sendCommand 0x12 0xFE []) off =
      .next ({ HostCall.sendCommand 0x12 0xFE [] with phase := .encode }, off) := ⟨rfl, rfl⟩

theorem witness_HostArmsWithTimeout :
    ({ HostCall.sendCommand 0x12 0xFE [] with phase := .arm } : HostCall).phase = .arm ∧ off.cfg.qTicks ≠ 0 ∧
    off.rxState = .off ∧ (1 : Ticks) ≠ 0 := by decide

/-- W8: the answer to the request, received. -/
theorem witness_HostReturnsOnlyValidated :
    systemTurn (.default 0x20) (.host 6) { HostCall.sendCommand 0x12 0xFE [] with phase := .await }
        (off.endReceive (recordOf (decodeFrame responseFrame))) =
      .next ({ HostCall.sendCommand 0x12 0xFE [] with phase := .finished (.response [0x07, 0x0B]) },
        off.endReceive (recordOf (decodeFrame responseFrame))) ∧
    ({ HostCall.sendCommand 0x12 0xFE [] with phase := .await } : HostCall).ended = false := by
  exact ⟨rfl, rfl⟩

end Sys2Proof.Tests
end

section
/-! What the block does with a message of the port that is presented first, and the host's arming turn (R10, R13,
R160). -/

namespace Sys2Proof.Machine

/-- A configuration is legal exactly when Q_TICKS is not 0 (R21). -/
theorem legal_iff (c : Config) : c.legal = true ↔ c.qTicks ≠ 0 := by simp [Config.legal]

/-- Delivery priority orders bytes only against TICKs, so it has nothing to deliver before a message of the port
(R116). -/
theorem priorityByte_of_port {s : State} {m : List Byte} {rest : List Input} (h : s.inputs = .port m :: rest) :
    s.priorityByte = none := by
  simp [State.priorityByte, h, yieldsToTransport]

/-- With no byte to deliver, the block takes the item presented (R51). -/
theorem nextOp_of_priorityByte_none {s : State} (h : s.priorityByte = none) : nextOp s = presentedOp s := by
  simp [nextOp, h]

/-- A message of the port that stands for an operation is taken where it is presented (R51). -/
theorem nextOp_of_port {s : State} {m : List Byte} {rest : List Input} {i : Instr} (h : s.inputs = .port m :: rest)
    (hm : decodeMessage m = .instr i) : nextOp s = .run i (s.setInputs rest) := by
  rw [nextOp_of_priorityByte_none (priorityByte_of_port h)]
  simp [presentedOp, h, hm]

/-- In a legal configuration the step performs the operation that comes next. -/
theorem step_of_nextOp_run {s s1 : State} {i : Instr} (hq : s.cfg.qTicks ≠ 0) (h : nextOp s = .run i s1) :
    step s = exec i s1 := by
  simp [step, (legal_iff s.cfg).2 hq, h]

/-- A message that is put before what is presented and taken again leaves no trace of itself. -/
@[simp] theorem State.setInputs_setInputs_inputs (s : State) (xs : List Input) :
    (s.setInputs xs).setInputs s.inputs = s := rfl

/-- A message the host presents is performed on the state it finds (log 15). -/
theorem presentItem_port {s t : State} {m : List Byte} {i : Instr} (hq : s.cfg.qTicks ≠ 0)
    (hm : decodeMessage m = .instr i) (ht : exec i s = .next t) (after : State → HostCall) :
    presentItem (.port m) s after = .next (after t, t) := by
  have hnext : nextOp (s.setInputs (.port m :: s.inputs)) = .run i s := by
    rw [nextOp_of_port (State.setInputs_inputs s _) hm, State.setInputs_setInputs_inputs]
  have hstep : step (s.setInputs (.port m :: s.inputs)) = .next t :=
    (step_of_nextOp_run (by simpa using hq) hnext).trans ht
  simp [presentItem, hstep]

/-- The message of RX_ARM decodes to it again (R72). -/
theorem decodeMessage_encode_rxArm (deadline : Ticks) :
    decodeMessage (Sys2Proof.encode (.rxArm deadline)) = .instr (.rxArm deadline) := by
  simp [Sys2Proof.encode, decodeMessage, decodeRxArmOperands]

/-- RX_ARM with a deadline other than 0 while RX_STATE is OFF starts a receive (R112). -/
theorem exec_rxArm_of_off {s : State} {deadline : Ticks} (hd : deadline ≠ 0) (hs : s.rxState = .off) :
    exec (.rxArm deadline) s = .next ((s.setCmdStatus .ok).startReceive deadline) := by
  simp only [exec, execRxArm, if_neg hd, hs]

/-- Every TIMEOUT_MS lies in 1..65535 (R10). -/
theorem HostParams.timeout_range (p : HostParams) : 1 ≤ p.timeout.toNat ∧ p.timeout.toNat ≤ 65535 := by
  have hlow : p.timeout.toNat ≠ 0 := (BitVec.toNat_ne_iff_ne).2 p.inRange
  have hhigh : p.timeout.toNat < 65536 := p.timeout.isLt
  omega

/-- At step 3 the host presents RX_ARM TIMEOUT_MS and goes on to wait (R160). -/
theorem systemTurn_arm (p : HostParams) (n : Nat) {c : HostCall} {s t : State} (hc : c.phase = .arm)
    (hq : s.cfg.qTicks ≠ 0) (ht : exec (.rxArm p.timeout) s = .next t) :
    systemTurn p (.host n) c s = .next ({ c with phase := .await }, t) := by
  have hturn : systemTurn p (.host n) c s =
      presentItem (.port (Sys2Proof.encode (.rxArm p.timeout))) s fun _ => { c with phase := .await } := by
    simp [systemTurn, hostTurn, hc]
  rw [hturn, presentItem_port hq (decodeMessage_encode_rxArm p.timeout) ht]

/-- Settles O60: the parameters' type carries the range, and the arming turn is RX_ARM's own step. -/
theorem hostArmsWithTimeout : Obligations.HostArmsWithTimeout := by
  refine ⟨fun a => ⟨rfl, rfl⟩, HostParams.timeout_range, ?_⟩
  intro p n c s hc hq hs
  have harm := exec_rxArm_of_off p.inRange hs
  exact ⟨_, systemTurn_arm p n hc hq harm, harm, rfl, rfl, rfl⟩

end Sys2Proof.Machine
end

section
/-! Which states the reset table describes, and which fields an operation and a step leave as they are (R40, R41). -/

namespace Sys2Proof.Machine

/-- The power-on state holds the values of the reset table (R41). -/
theorem powerOn_atReset (cfg : Config) (held : List Byte) (presented : List Input) :
    (State.powerOn cfg held presented).AtReset .none where
  cmdStatus := rfl
  txBuf := Buffer.get_zero 258
  txLen := rfl
  encStatus := rfl
  decRes := rfl
  rxState := rfl
  rxBuf := Buffer.get_zero 258
  rxCnt := rfl
  rxOvf := rfl
  rxPrep := rfl
  qrem := rfl
  orem := rfl
  rxRes := rfl

/-- The port's verdict replaces CMD_STATUS alone, so every other field keeps its value of the table. -/
theorem State.AtReset.setCmdStatus {s : State} {cmd : Status} (h : s.AtReset cmd) (st : Status) :
    (s.setCmdStatus st).AtReset st :=
  { h with cmdStatus := rfl }

/-- Settles O1: RESET writes the power-on values and then its verdict. -/
theorem resetLeavesTableValues : Obligations.ResetLeavesTableValues := by
  refine ⟨powerOn_atReset _ _ _, fun cfg held presented => ⟨powerOn_atReset cfg held presented, rfl⟩, fun s => ?_⟩
  exact ⟨_, rfl, (powerOn_atReset s.cfg s.transport s.inputs).setCmdStatus .ok, rfl, rfl, rfl, rfl⟩

theorem sameSerializer_iff (s t : State) :
    SameSerializer s t ↔ t.txBuf = s.txBuf ∧ t.txLen = s.txLen ∧ t.encStatus = s.encStatus :=
  ⟨fun h => ⟨h.txBuf, h.txLen, h.encStatus⟩, fun ⟨hbuf, hlen, hst⟩ => ⟨hbuf, hlen, hst⟩⟩

/-- RX_DONE as R38 defines it. -/
theorem rxDone_iff (s : State) : s.rxDone = true ↔ s.rxState = .off ∧ s.rxRes.status ≠ .none := by
  simp [State.rxDone]

/-- RX_DONE is read from the Synchronizer's fields alone (R38). -/
theorem SameSynchronizer.rxDone_eq {s t : State} (h : SameSynchronizer s t) : t.rxDone = s.rxDone := by
  simp [State.rxDone, h.rxState, h.rxRes]

/-- While no receive is in progress only RESET and an accepted RX_ARM write the Synchronizer's fields (R40, R124). -/
theorem exec_sameSynchronizer_of_off {i : Instr} {s t : State} (hoff : s.rxState = .off) (h : exec i s = .next t)
    (hreset : i ≠ .reset) (harm : ∀ T, i = .rxArm T → T = 0) : SameSynchronizer s t := by
  cases i with
  | nop => cases h; constructor <;> rfl
  | encode ss dd cc p =>
    simp only [exec, execEncode] at h
    split at h <;> cases h <;> constructor <;> rfl
  | decode b => cases h; constructor <;> rfl
  | rxArm T =>
    rcases execRxArm_next h with ⟨-, rfl⟩ | ⟨hT, -, -⟩ | ⟨hT, -, -⟩
    · constructor <;> rfl
    · exact absurd (harm T rfl) hT
    · exact absurd (harm T rfl) hT
  | reset => exact absurd rfl hreset
  | reservedCmd m => cases h; constructor <;> rfl
  | rxByte b => simp [exec, execRxByte, hoff] at h
  | tick =>
    simp only [exec, execTick, hoff] at h
    cases h; constructor <;> rfl
  | reservedEvent tag data => cases h

/-- Taking a byte changes nothing but what the transport holds (R115). -/
theorem takeOldest_state {s t : State} {b : Byte} (h : s.takeOldest b = some t) : ∃ held, t = s.setTransport held := by
  rcases takeOldest_some h with ⟨-, rfl⟩ | ⟨rest, -, rfl⟩
  · exact ⟨t.transport, rfl⟩
  · exact ⟨rest, rfl⟩

/-- Settles O45: each operation's inversion lemma names its writes, and every field it does not write reads the same
before and after. -/
theorem onlyListedWriters : Obligations.OnlyListedWriters := by
  intro i s t h
  cases i with
  | nop => cases h; simp [sameSerializer_iff, Instr.isEvent]
  | encode ss dd cc p =>
    simp only [exec, execEncode] at h
    split at h <;> cases h <;> simp [Instr.isEvent]
  | decode b => cases h; simp [sameSerializer_iff, Instr.isEvent]
  | rxArm T =>
    rcases execRxArm_next h with ⟨-, rfl⟩ | ⟨-, -, rfl⟩ | ⟨-, -, rfl⟩ <;>
      simp [sameSerializer_iff, Instr.isEvent]
  | reset => cases h; simp [Instr.isEvent]
  | reservedCmd m => cases h; simp [sameSerializer_iff, Instr.isEvent]
  | rxByte b =>
    obtain ⟨s1, htake, hcases⟩ := execRxByte_next h
    obtain ⟨held, rfl⟩ := takeOldest_state htake
    rcases hcases with ⟨hidle, rfl⟩ | ⟨-, -, rfl⟩ | ⟨-, -, rfl⟩
    · simp [sameSerializer_iff, collectFirst, hidle]
    · simp [sameSerializer_iff]
    · simp [sameSerializer_iff]
  | tick =>
    rcases execTick_next h with ⟨hs, rfl⟩ | ⟨hs, -, rfl⟩ | ⟨hs, -, rfl⟩ | ⟨hs, -, -, rfl⟩ | ⟨hs, -, rfl⟩ |
      ⟨hs, -, -, -, rfl⟩ <;> simp [sameSerializer_iff, hs]
  | reservedEvent tag data => cases h

/-- Taking the next item changes nothing but what is presented (R51). -/
theorem nextOp_run_state {s s1 : State} {i : Instr} (h : nextOp s = .run i s1) : ∃ xs, s1 = s.setInputs xs := by
  rcases nextOp_run h with ⟨b, -, -, rfl⟩ | ⟨-, x, rest, -, rfl, -⟩
  · exact ⟨s1.inputs, rfl⟩
  · exact ⟨rest, rfl⟩

/-- Everything a step can do: wait, or take an item from what is presented and perform it as an operation, reject it, or
let the environment act (R49, R51). -/
theorem step_cases {s t : State} (h : step s = .next t) :
    t = s ∨ ∃ xs, (∃ i, exec i (s.setInputs xs) = .next t) ∨ t = (s.setInputs xs).setCmdStatus .badOperand ∨
      ∃ a, t = applyEnv a (s.setInputs xs) := by
  obtain ⟨-, ⟨-, hwait⟩ | ⟨i, s1, hnext, hexec⟩ | ⟨s1, hnext, ht⟩ | ⟨a, s1, hnext, ht⟩⟩ := step_next h
  · exact .inl hwait
  · obtain ⟨xs, rfl⟩ := nextOp_run_state hnext
    exact .inr ⟨xs, .inl ⟨i, hexec⟩⟩
  · obtain ⟨m, rest, -, -, rfl⟩ := nextOp_reject hnext
    exact .inr ⟨rest, .inr (.inl ht)⟩
  · obtain ⟨rest, -, rfl⟩ := nextOp_environment hnext
    exact .inr ⟨rest, .inr (.inr ⟨a, ht⟩)⟩

/-- The environment's actions do not write the configuration (R172). -/
@[simp] theorem applyEnv_cfg (a : EnvAction) (s : State) : (applyEnv a s).cfg = s.cfg := by cases a <;> rfl

/-- No step writes the configuration (R21). -/
theorem step_cfg {s t : State} (h : step s = .next t) : t.cfg = s.cfg := by
  rcases step_cases h with rfl | ⟨xs, ⟨i, hexec⟩ | rfl | ⟨a, rfl⟩⟩
  · rfl
  · exact (exec_keeps_cfg_inputs hexec).1
  · rfl
  · exact applyEnv_cfg a _

/-- Settles O55: the test of Q_TICKS comes first in every step, and no step writes the configuration. -/
theorem configurationFixed : Obligations.ConfigurationFixed := by
  refine ⟨fun s hq => ?_, fun s t h => ?_⟩
  · have hillegal : ¬ s.cfg.legal = true := by rw [legal_iff]; exact not_not.2 hq
    exact if_neg hillegal
  · obtain ⟨hlegal, -⟩ := step_next h
    rw [step_cfg h]
    exact ⟨rfl, (legal_iff s.cfg).1 hlegal⟩

end Sys2Proof.Machine
end

section
/-! What decode and Finalize leave in a result record (R28, R95 to R101, R127 to R129). -/

namespace Sys2Proof.Machine

/-- A failed operation's record is whole (R28). -/
theorem blank_ok {st : Status} (h : st ≠ .ok) : (ResultRecord.blank st).Ok where
  success hok := absurd hok h
  failure _ := rfl

/-- The record of a decode is whole: a frame's length field is at least 3, and zeros follow its payload (R28, R101). -/
theorem recordOf_decodeFrame_ok (b : List Byte) : (recordOf (decodeFrame b)).Ok := by
  cases hd : decodeFrame b with
  | error e => exact blank_ok e.status_ne_ok
  | frame f =>
    obtain ⟨hmin, -, hsize, -, hf⟩ := decodeFrame_frame hd
    have hlen : f.len = byteAt b 1 := by rw [hf]
    have hpayload : f.payload.length = f.len.toNat - 3 := by
      have hslice := length_slice (b := b) (i := 5) (j := (byteAt b 1).toNat + 1) (by omega)
      rw [hf]; simp only [hslice]; omega
    have hthree : 3 ≤ f.len.toNat := by rw [hlen]; omega
    have hplen : (f.len - 3).toNat = f.len.toNat - 3 := by bv_omega
    refine ⟨fun _ => ⟨hthree, hplen, fun i hi => ?_⟩, fun hne => absurd rfl hne⟩
    have hfits : f.payload.length ≤ 252 := by have := f.len.isLt; omega
    have hpast : f.payload.length ≤ i := by simp only [recordOf_frame_plen] at hi; omega
    rw [recordOf_frame_payload, Buffer.get_ofList hfits, List.getD_eq_default _ _ hpast]

/-- The statuses a decode can answer (R94, R101). -/
theorem recordOf_status (r : DecodeResult) :
    (recordOf r).status = .ok ∨ (recordOf r).status = .tooShort ∨ (recordOf r).status = .badHeader ∨
      (recordOf r).status = .sizeMismatch ∨ (recordOf r).status = .checksumMismatch := by
  cases r with
  | frame f => exact .inl rfl
  | error e => cases e <;> simp [FrameError.status]

/-- A record says BadHeader only for a buffer that does not begin with the sentinel (R96). -/
theorem recordOf_status_ne_badHeader {b : List Byte} (h : byteAt b 0 = sentinel) :
    (recordOf (decodeFrame b)).status ≠ .badHeader := by
  unfold decodeFrame
  split
  · simp [FrameError.status]
  · split
    · contradiction
    · split
      · simp [FrameError.status]
      · split <;> simp [FrameError.status]

/-- The candidate of a receive that has a byte begins with the sentinel: collected, or prepended (R127). -/
theorem byteAt_candidate_zero {s : State} (h : s.rxCnt ≠ 0) : byteAt s.candidate 0 = sentinel := by
  unfold State.candidate
  split
  · rfl
  · next hfirst =>
    have hcnt : 0 < s.rxCnt.toNat := by bv_omega
    have hbuf : s.rxBuf.get 0 = sentinel := by simpa [State.missesSentinel] using hfirst
    rw [← hbuf]
    simp [State.collected, byteAt, Buffer.take, Buffer.get, List.getD_eq_getElem?_getD, hcnt]

/-- What Finalize writes to RX_RES is whole (R28, R128, R129). -/
theorem finalResult_ok (s : State) : s.finalResult.Ok := by
  unfold State.finalResult
  split
  · exact blank_ok (by decide)
  · exact recordOf_decodeFrame_ok s.candidate

/-- The statuses Finalize can write to RX_RES (R37, R134). -/
theorem finalResult_status {s : State} (h : s.rxCnt ≠ 0) :
    s.finalResult.status = .ok ∨ s.finalResult.status = .tooShort ∨ s.finalResult.status = .sizeMismatch ∨
      s.finalResult.status = .checksumMismatch := by
  unfold State.finalResult
  split
  · simp
  · have hno := recordOf_status_ne_badHeader (byteAt_candidate_zero h)
    have hany := recordOf_status (decodeFrame s.candidate)
    tauto

/-- Finalize always leaves a result (R38, R149). -/
theorem finalResult_status_ne_none (s : State) : s.finalResult.status ≠ .none := by
  unfold State.finalResult
  split
  · simp
  · rcases recordOf_status (decodeFrame s.candidate) with h | h | h | h | h <;> simp [h]

/-- A receive that ends with a result raises RX_DONE (R38). -/
theorem endReceive_rxDone {s : State} {r : ResultRecord} (h : r.status ≠ .none) : (s.endReceive r).rxDone = true :=
  (rxDone_iff _).2 ⟨rfl, h⟩

/-- Settles O30: every way a TICK ends a receive writes a result, and afterwards only RESET and an accepted RX_ARM write
the Synchronizer's fields. -/
theorem doneFromEndUntilRearmed : Obligations.DoneFromEndUntilRearmed := by
  refine ⟨fun s t hon h hoff => ?_, fun i s t hdone h hnot => ?_⟩
  · rcases execTick_next h with ⟨hs, -⟩ | ⟨hs, -, rfl⟩ | ⟨-, -, rfl⟩ | ⟨hs, -, -, rfl⟩ | ⟨-, -, rfl⟩ | ⟨-, -, -, -, rfl⟩
    · exact absurd hs hon
    · exact absurd hoff hon
    · exact endReceive_rxDone (by decide)
    · exact absurd hoff hon
    · exact endReceive_rxDone (finalResult_status_ne_none _)
    · exact endReceive_rxDone (by decide)
  · by_contra hother
    push Not at hother
    obtain ⟨hreset, harm⟩ := hother
    have hsame := exec_sameSynchronizer_of_off ((rxDone_iff s).1 hdone).1 h hreset
      fun T hT => by_contra fun hne => harm T hne hT
    rw [hsame.rxDone_eq, hdone] at hnot
    cases hnot

end Sys2Proof.Machine
end

section
/-! TX_BUF after an ENCODE holds a whole frame (R83, R85). -/

namespace Sys2Proof.Machine

/-- A slice that ends inside the sequence a buffer was made from is that sequence's slice. -/
theorem slice_ofList {n : Nat} {l : List Byte} (hn : l.length ≤ n) {i j : Nat} (hj : j < l.length) :
    slice (Buffer.ofList n l).bytes i j = slice l i j := by
  have htake : (Buffer.ofList n l).bytes.take (j + 1) = l.take (j + 1) := by
    simp only [Buffer.ofList]
    rw [List.take_take, Nat.min_eq_left (by omega), List.take_append_of_le_length (by omega)]
  simp only [slice, ← List.drop_take, htake]

/-- Offsets 1 to L+1 of a frame are the bytes its checksum covers (R56, R64). -/
theorem slice_frameBytes_covered (ss dd cc : Byte) (p : List Byte) :
    slice (frameBytes ss dd cc p) 1 (p.length + 4) = coveredBytes ss dd cc p := by
  have hlen : p.length + 4 + 1 - 1 = (coveredBytes ss dd cc p).length := by simp
  simp only [slice, frameBytes, List.drop_succ_cons, List.drop_zero, hlen, List.take_left']

/-- The last byte of a frame is its checksum (R56, R64). -/
theorem byteAt_frameBytes_last (ss dd cc : Byte) (p : List Byte) :
    byteAt (frameBytes ss dd cc p) (p.length + 5) = checksum (coveredBytes ss dd cc p) := by
  rw [frameBytes, byteAt_cons_succ, byteAt_append_right _ _ (by simp)]
  simp

/-- What ENCODE writes for a payload of at most 252 bytes is a whole frame (R85). -/
theorem setTx_frameBytes_holdsFrame (s : State) (ss dd cc : Byte) {p : List Byte} (hp : p.length ≤ maxPayload)
    (st : Status) :
    (s.setTx (Buffer.ofList 258 (frameBytes ss dd cc p))
      (BitVec.ofNat 9 (frameBytes ss dd cc p).length) st).HoldsFrame := by
  have hmax : p.length ≤ 252 := hp
  have hlen := length_frameBytes ss dd cc p
  have hget : ∀ i, (Buffer.ofList 258 (frameBytes ss dd cc p)).get i = byteAt (frameBytes ss dd cc p) i :=
    Buffer.get_ofList (by omega)
  have hfield : ((Buffer.ofList 258 (frameBytes ss dd cc p)).get 1).toNat = p.length + 3 := by
    rw [hget, byteAt_frameBytes_one, toNat_lenfield hp]
  have hsize : (BitVec.ofNat 9 (frameBytes ss dd cc p).length).toNat = p.length + 6 := by
    rw [hlen, BitVec.toNat_ofNat]; omega
  constructor
  case first => exact hget 0
  case minimum => simp only [State.setTx_txBuf, hfield]; omega
  case size => simp only [State.setTx_txBuf, State.setTx_txLen, hfield, hsize]
  case check =>
    simp only [State.setTx_txBuf, hfield]
    rw [hget, byteAt_frameBytes_last, slice_ofList (by omega) (by omega), slice_frameBytes_covered]
  case rest =>
    intro i hi
    simp only [State.setTx_txLen, hsize] at hi
    rw [State.setTx_txBuf, hget]
    exact List.getD_eq_default _ _ (by omega)

end Sys2Proof.Machine
end

section
/-! The invariant of the block: it holds at power-on, and each named write, each operation and each step keeps it. -/

namespace Sys2Proof.Machine

/-- The values RX_RES.STATUS holds while no receive is in progress (R37). -/
def IsReceiveVerdict (st : Status) : Prop :=
  st = .none ∨ st = .ok ∨ st = .tooShort ∨ st = .sizeMismatch ∨ st = .checksumMismatch ∨ st = .noData ∨ st = .timeout

theorem receiveOk_off {s : State} (h : s.rxState = .off) : s.ReceiveOk ↔ IsReceiveVerdict s.rxRes.status := by
  simp [State.ReceiveOk, IsReceiveVerdict, h]

theorem receiveOk_idle {s : State} (h : s.rxState = .idle) :
    s.ReceiveOk ↔ s.rxRes.status = .none ∧ s.rxCnt = 0 ∧ s.rxOvf = false ∧ s.rxPrep = false ∧ s.qrem = 0 ∧
      s.orem ≠ 0 := by
  simp [State.ReceiveOk, h]

theorem receiveOk_collecting {s : State} (h : s.rxState = .collecting) :
    s.ReceiveOk ↔ s.rxRes.status = .none ∧ s.rxCnt ≠ 0 ∧ s.rxPrep = false ∧ s.qrem ≠ 0 ∧ s.orem ≠ 0 := by
  simp [State.ReceiveOk, h]

theorem finalResult_isReceiveVerdict {s : State} (h : s.rxCnt ≠ 0) : IsReceiveVerdict s.finalResult.status := by
  have hst := finalResult_status h
  unfold IsReceiveVerdict
  tauto

/-- The power-on state of a legal configuration satisfies the invariant (R41). -/
theorem powerOn_inv {cfg : Config} (hq : cfg.qTicks ≠ 0) (held : List Byte) (presented : List Input) :
    (State.powerOn cfg held presented).Inv where
  config := hq
  cmdStatus := by simp
  tx := .inr ⟨.inr rfl, rfl, rfl⟩
  decRecord := blank_ok (by decide)
  decStatus := .inl rfl
  rxRecord := blank_ok (by decide)
  rxCount := by simp
  rxZeros i _ := Buffer.get_zero 258 i
  overflow h := by cases h
  quiet := Nat.zero_le _
  receive := .inl rfl

/-- Settles O57. -/
theorem resetSatisfiesInvariant : Obligations.ResetSatisfiesInvariant := powerOn_inv (by decide) [] []

namespace State.Inv

variable {s t : State}

/-- The Serializer's clause of the invariant speaks of the Serializer's fields alone (R23 to R25). -/
theorem tx_of_same (h : s.Inv) (hsame : SameSerializer s t) :
    (t.encStatus = .ok ∧ t.HoldsFrame) ∨ ((t.encStatus = .payloadTooLarge ∨ t.encStatus = .none) ∧ t.HoldsNoFrame) := by
  obtain ⟨hbuf, hlen, hst⟩ := hsame
  rcases h.tx with ⟨hok, hframe⟩ | ⟨hno, hnone⟩
  · obtain ⟨first, minimum, size, check, rest⟩ := hframe
    exact .inl ⟨hst.trans hok, by constructor <;> simpa only [hbuf, hlen]⟩
  · obtain ⟨size, zeros⟩ := hnone
    exact .inr ⟨by rwa [hst], hlen.trans size, hbuf.trans zeros⟩

/-- The model's own view of what is presented is outside the invariant. -/
theorem setInputs (h : s.Inv) (xs : List Input) : (s.setInputs xs).Inv :=
  { h with tx := h.tx_of_same ⟨rfl, rfl, rfl⟩ }

/-- What the transport holds is outside the invariant. -/
theorem setTransport (h : s.Inv) (bytes : List Byte) : (s.setTransport bytes).Inv :=
  { h with tx := h.tx_of_same ⟨rfl, rfl, rfl⟩ }

theorem setCmdStatus (h : s.Inv) {st : Status}
    (hst : st = .ok ∨ st = .badOperand ∨ st = .busy ∨ st = .badOp ∨ st = .none) : (s.setCmdStatus st).Inv :=
  { h with cmdStatus := hst, tx := h.tx_of_same ⟨rfl, rfl, rfl⟩ }

/-- ENCODE leaves a frame with OK, or no frame with PayloadTooLarge (R83, R84). -/
theorem execEncode (h : s.Inv) {ss dd cc : Byte} {p : List Byte} (ht : Machine.execEncode ss dd cc p s = .next t) :
    t.Inv := by
  have hcmd : (s.setCmdStatus .ok).Inv := h.setCmdStatus (.inl rfl)
  unfold Machine.execEncode at ht
  by_cases hp : p.length ≤ maxPayload
  · rw [encodeFrame_of_le hp] at ht
    cases ht
    exact { hcmd with tx := .inl ⟨rfl, setTx_frameBytes_holdsFrame _ ss dd cc hp .ok⟩ }
  · rw [encodeFrame_of_lt (by omega)] at ht
    cases ht
    exact { hcmd with tx := .inr ⟨.inl rfl, rfl, rfl⟩ }

/-- DECODE leaves a whole record with one of decode's statuses (R26, R93). -/
theorem setDecRes_decodeFrame (h : s.Inv) (b : List Byte) : (s.setDecRes (recordOf (decodeFrame b))).Inv :=
  { h with
    tx := h.tx_of_same ⟨rfl, rfl, rfl⟩
    decRecord := recordOf_decodeFrame_ok b
    decStatus := .inr (recordOf_status _) }

/-- An accepted RX_ARM starts a receive with no byte and a deadline of at least one tick (R112). -/
theorem startReceive (h : s.Inv) {deadline : Ticks} (hd : deadline ≠ 0) : (s.startReceive deadline).Inv :=
  { h with
    tx := h.tx_of_same ⟨rfl, rfl, rfl⟩
    rxRecord := blank_ok (by decide)
    rxCount := by simp
    rxZeros := fun i _ => Buffer.get_zero 258 i
    overflow := fun hovf => by cases hovf
    quiet := Nat.zero_le _
    receive := ⟨rfl, rfl, rfl, rfl, rfl, hd⟩ }

/-- A byte stored at RX_CNT leaves zeros after the new RX_CNT (R31, R32). -/
theorem get_storeByte_past (h : s.Inv) (hcnt : s.rxCnt.toNat < 258) (b : Byte) {i : Nat}
    (hi : s.rxCnt.toNat + 1 ≤ i) : (s.storeByte s.rxCnt b).rxBuf.get i = 0 := by
  rw [State.storeByte_rxBuf, Buffer.get_set _ hcnt, if_neg (by omega)]
  exact h.rxZeros i (by omega)

/-- The first byte of a receive opens its COLLECTING state with a full quiet period (R117, R120). -/
theorem collectFirst (h : s.Inv) (hidle : s.rxState = .idle) (b : Byte) : (collectFirst b s).Inv := by
  obtain ⟨hres, hcnt, hovf, hprep, -, horem⟩ := (receiveOk_idle hidle).1 h.receive
  have hzeros : ∀ i, 1 ≤ i → (s.rxBuf.set 0 b).get i = 0 := by
    intro i hi
    have hpast := h.get_storeByte_past (b := b) (by simp [hcnt]) (i := i) (by simpa [hcnt] using hi)
    simpa [hcnt] using hpast
  exact { h with
    tx := h.tx_of_same ⟨rfl, rfl, rfl⟩
    rxCount := (by decide : (0 + 1 : Count9).toNat ≤ 258)
    rxZeros := hzeros
    overflow := fun htrue => absurd (htrue.symm.trans hovf) (by decide)
    quiet := Nat.le_refl _
    receive := ⟨hres, (by decide : (0 + 1 : Count9) ≠ 0), hprep, h.config, horem⟩ }

/-- A further byte is appended and restarts the quiet period (R118, R120). -/
theorem storeByte_restartQuiet (h : s.Inv) (hs : s.rxState = .collecting) (hcnt : s.rxCnt.toNat < 258) (b : Byte) :
    (s.storeByte s.rxCnt b).restartQuiet.Inv := by
  obtain ⟨hres, -, hprep, -, horem⟩ := (receiveOk_collecting hs).1 h.receive
  have hnext : (s.rxCnt + 1).toNat = s.rxCnt.toNat + 1 := by bv_omega
  have hzero : s.rxCnt + 1 ≠ 0 := by bv_omega
  exact { h with
    tx := h.tx_of_same ⟨rfl, rfl, rfl⟩
    rxCount := hnext.trans_le hcnt
    rxZeros := fun i hi => h.get_storeByte_past hcnt b (hnext.ge.trans hi)
    overflow := fun htrue => absurd (h.overflow htrue) (Nat.ne_of_lt hcnt)
    quiet := Nat.le_refl _
    receive := (receiveOk_collecting (s := (s.storeByte s.rxCnt b).restartQuiet) hs).2
      ⟨hres, hzero, hprep, h.config, horem⟩ }

/-- A byte beyond the capacity marks the overflow of a full buffer (R33, R119). -/
theorem markOverflow_restartQuiet (h : s.Inv) (hs : s.rxState = .collecting) (hcnt : 258 ≤ s.rxCnt.toNat) :
    s.markOverflow.restartQuiet.Inv := by
  obtain ⟨hres, hne, hprep, -, horem⟩ := (receiveOk_collecting hs).1 h.receive
  exact { h with
    tx := h.tx_of_same ⟨rfl, rfl, rfl⟩
    overflow := fun _ => Nat.le_antisymm h.rxCount hcnt
    quiet := Nat.le_refl _
    receive := (receiveOk_collecting (s := s.markOverflow.restartQuiet) hs).2 ⟨hres, hne, hprep, h.config, horem⟩ }

/-- RX_BYTE keeps the invariant (R117 to R120). -/
theorem execRxByte (h : s.Inv) {b : Byte} (ht : Machine.execRxByte b s = .next t) : t.Inv := by
  obtain ⟨s1, htake, hcases⟩ := execRxByte_next ht
  obtain ⟨held, rfl⟩ := takeOldest_state htake
  have h1 : (s.setTransport held).Inv := h.setTransport held
  rcases hcases with ⟨hs, rfl⟩ | ⟨hs, hroom, rfl⟩ | ⟨hs, hfull, rfl⟩
  · exact h1.collectFirst hs b
  · exact h1.storeByte_restartQuiet hs hroom b
  · exact h1.markOverflow_restartQuiet hs hfull

/-- A tick does not raise QREM while a receive has bytes (R35, R123). -/
theorem quiet_pred (h : s.Inv) (hs : s.rxState = .collecting) : (s.qrem - 1).toNat ≤ s.cfg.qTicks.toNat := by
  obtain ⟨-, -, -, hqrem, -⟩ := (receiveOk_collecting hs).1 h.receive
  have hle := h.quiet
  bv_omega

/-- A receive may end with whatever its timers and RX_PREP are, so long as QREM is in range and the result is a whole
record with a verdict of the Synchronizer (R35, R37, R128). -/
theorem endReceive (h : s.Inv) {q o : Ticks} {p : Bool} {r : ResultRecord}
    (hquiet : q.toNat ≤ s.cfg.qTicks.toNat) (hrecord : r.Ok) (hverdict : IsReceiveVerdict r.status) :
    ({ s with qrem := q, orem := o, rxPrep := p }.endReceive r).Inv :=
  { h with
    tx := h.tx_of_same ⟨rfl, rfl, rfl⟩
    rxRecord := hrecord
    quiet := hquiet
    receive := hverdict }

/-- TICK keeps the invariant (R123 to R131). -/
theorem execTick (h : s.Inv) (ht : Machine.execTick s = .next t) : t.Inv := by
  rcases execTick_next ht with ⟨-, rfl⟩ | ⟨hs, horem, rfl⟩ | ⟨hs, -, rfl⟩ | ⟨hs, hqrem, horem, rfl⟩ | ⟨hs, -, rfl⟩ |
    ⟨hs, -, -, -, rfl⟩
  · exact h
  · obtain ⟨hres, hcnt, hovf, hprep, hq, -⟩ := (receiveOk_idle hs).1 h.receive
    exact { h with
      tx := h.tx_of_same ⟨rfl, rfl, rfl⟩
      receive := (receiveOk_idle (s := s.countDeadline) hs).2 ⟨hres, hcnt, hovf, hprep, hq, horem⟩ }
  · exact h.endReceive (p := s.rxPrep) h.quiet (blank_ok (by decide)) (by simp [IsReceiveVerdict])
  · obtain ⟨hres, hcnt, hprep, -, -⟩ := (receiveOk_collecting hs).1 h.receive
    exact { h with
      tx := h.tx_of_same ⟨rfl, rfl, rfl⟩
      quiet := h.quiet_pred hs
      receive := (receiveOk_collecting (s := s.countQuiet.countDeadline) hs).2 ⟨hres, hcnt, hprep, hqrem, horem⟩ }
  · obtain ⟨-, hcnt, -, -, -⟩ := (receiveOk_collecting hs).1 h.receive
    exact h.endReceive (h.quiet_pred hs) (finalResult_ok s) (finalResult_isReceiveVerdict hcnt)
  · exact h.endReceive (p := s.rxPrep) (h.quiet_pred hs) (blank_ok (by decide)) (by simp [IsReceiveVerdict])

/-- Every operation keeps the invariant. -/
theorem exec (h : s.Inv) {i : Instr} (ht : Machine.exec i s = .next t) : t.Inv := by
  cases i with
  | nop => cases ht; exact h.setCmdStatus (.inl rfl)
  | encode ss dd cc p => exact h.execEncode ht
  | decode b => cases ht; exact (h.setCmdStatus (.inl rfl)).setDecRes_decodeFrame b
  | rxArm deadline =>
    rcases execRxArm_next ht with ⟨-, rfl⟩ | ⟨hd, -, rfl⟩ | ⟨-, -, rfl⟩
    · exact h.setCmdStatus (by simp)
    · exact (h.setCmdStatus (.inl rfl)).startReceive hd
    · exact h.setCmdStatus (by simp)
  | reset => cases ht; exact (powerOn_inv h.config _ _).setCmdStatus (.inl rfl)
  | reservedCmd m => cases ht; exact h.setCmdStatus (by simp)
  | rxByte b => exact h.execRxByte ht
  | tick => exact h.execTick ht
  | reservedEvent tag data => cases ht

/-- Every action of the environment keeps the invariant. -/
theorem applyEnv (h : s.Inv) (a : EnvAction) : (applyEnv a s).Inv := by
  cases a with
  | arrive bytes => exact h.setTransport _
  | flushInput => exact h.setTransport []
  | powerOn => exact powerOn_inv h.config s.transport s.inputs

end State.Inv

/-- Settles O56: whatever a step takes, it takes from a state that satisfies the invariant, and performs it by an
operation, a rejection or an action of the environment that keeps it. -/
theorem stepKeepsInvariant : Obligations.StepKeepsInvariant := by
  intro s t h hstep
  rcases step_cases hstep with rfl | ⟨xs, ⟨i, hexec⟩ | rfl | ⟨a, rfl⟩⟩
  · exact h
  · exact (h.setInputs xs).exec hexec
  · exact (h.setInputs xs).setCmdStatus (.inr (.inl rfl))
  · exact (h.setInputs xs).applyEnv a

end Sys2Proof.Machine
end

section
/-! A message of the port presented twice (R50). -/

namespace Sys2Proof.Machine

/-- A message other than RX_ARM writes values that do not depend on the fields it writes, so presenting it again writes
the same values over themselves (R50). -/
theorem exec_message_idempotent {i : Instr} {s t : State} (hmsg : i.isEvent = false) (harm : ∀ T, i ≠ .rxArm T)
    (h : exec i s = .next t) : exec i t = .next t := by
  cases i with
  | nop => cases h; rfl
  | encode ss dd cc p =>
    cases hf : encodeFrame ss dd cc p with
    | none => simp only [exec, execEncode, hf] at h ⊢; cases h; rfl
    | some f => simp only [exec, execEncode, hf] at h ⊢; cases h; rfl
  | decode b => cases h; rfl
  | rxArm T => exact absurd rfl (harm T)
  | reset => cases h; rfl
  | reservedCmd m => cases h; rfl
  | rxByte b => cases hmsg
  | tick => cases hmsg
  | reservedEvent tag data => cases hmsg

/-- RX_ARM with a deadline other than 0 during a receive is rejected with Busy (R113). -/
theorem exec_rxArm_of_ne_off {s : State} {deadline : Ticks} (hd : deadline ≠ 0) (hs : s.rxState ≠ .off) :
    exec (.rxArm deadline) s = .next (s.setCmdStatus .busy) := by
  cases hst : s.rxState with
  | off => exact absurd hst hs
  | idle => simp only [exec, execRxArm, if_neg hd, hst]
  | collecting => simp only [exec, execRxArm, if_neg hd, hst]

/-- Settles O44: an accepted RX_ARM leaves a receive in progress, which is what makes the second one Busy. -/
theorem messagesAreIdempotent : Obligations.MessagesAreIdempotent := by
  refine ⟨fun i s t => exec_message_idempotent, fun T T' s t hT hT' hoff h => ?_⟩
  rw [exec_rxArm_of_off hT hoff] at h
  cases h
  exact exec_rxArm_of_ne_off hT' (by simp)

end Sys2Proof.Machine
end

section
/-! The step that takes a presented operation, and the step that takes a word of the opcode table (R51). -/

namespace Sys2Proof

/-- A message without operands stands for the operation its opcode names (R73). -/
theorem decodeNoOperand_instr {i j : Instr} {l : List Byte} (h : decodeNoOperand j l = .instr i) : i = j := by
  cases l with
  | nil => cases h; rfl
  | cons x xs => cases h

/-- The operands of ENCODE stand for no other operation (R70). -/
theorem decodeEncodeOperands_instr {i : Instr} {l : List Byte} (h : decodeEncodeOperands l = .instr i) :
    ∃ ss dd cc p, i = .encode ss dd cc p := by
  unfold decodeEncodeOperands at h
  split at h
  · split_ifs at h
    cases h
    exact ⟨_, _, _, _, rfl⟩
  · cases h

/-- The operands of DECODE stand for no other operation (R71). -/
theorem decodeDecodeOperands_instr {i : Instr} {l : List Byte} (h : decodeDecodeOperands l = .instr i) :
    ∃ b, i = .decode b := by
  unfold decodeDecodeOperands at h
  split at h
  · split_ifs at h
    cases h
    exact ⟨_, rfl⟩
  · cases h

/-- The operands of RX_ARM stand for no other operation (R72). -/
theorem decodeRxArmOperands_instr {i : Instr} {l : List Byte} (h : decodeRxArmOperands l = .instr i) :
    ∃ T, i = .rxArm T := by
  unfold decodeRxArmOperands at h
  split at h
  · cases h; exact ⟨_, rfl⟩
  · cases h

/-- No message of the port stands for an input event (R69, R76). -/
theorem isEvent_of_decodeMessage {m : List Byte} {i : Instr} (h : decodeMessage m = .instr i) : i.isEvent = false := by
  cases m with
  | nil => cases h; rfl
  | cons op rest =>
    simp only [decodeMessage] at h
    split_ifs at h
    · rw [decodeNoOperand_instr h]; rfl
    · obtain ⟨ss, dd, cc, p, rfl⟩ := decodeEncodeOperands_instr h; rfl
    · obtain ⟨b, rfl⟩ := decodeDecodeOperands_instr h; rfl
    · obtain ⟨T, rfl⟩ := decodeRxArmOperands_instr h; rfl
    · rw [decodeNoOperand_instr h]; rfl
    · cases h; rfl

/-- The data of an RX_BYTE event stand for no other operation (R76). -/
theorem decodeRxByteData_instr {i : Instr} {l : List Byte} (h : decodeRxByteData l = .instr i) :
    ∃ b, i = .rxByte b := by
  unfold decodeRxByteData at h
  split at h
  · cases h; exact ⟨_, rfl⟩
  · cases h

/-- The data of a TICK event stand for no other operation (R76). -/
theorem decodeTickData_instr {i : Instr} {l : List Byte} (h : decodeTickData l = .instr i) : i = .tick := by
  cases l with
  | nil => cases h; rfl
  | cons x xs => cases h

/-- Event bytes stand for input events alone (R76, R77). -/
theorem isEvent_of_decodeEvent {e : List Byte} {i : Instr} (h : decodeEvent e = .instr i) : i.isEvent = true := by
  cases e with
  | nil => cases h
  | cons tag data =>
    simp only [decodeEvent] at h
    split_ifs at h
    · obtain ⟨b, rfl⟩ := decodeRxByteData_instr h; rfl
    · rw [decodeTickData_instr h]; rfl
    · cases h; rfl

/-- A word of the opcode table is read as a line of a trace. -/
theorem decodeTableWord_eq_some {nbits w : Nat} {i : Instr} :
    decodeTableWord nbits w = some i ↔ decodeTraceLine (tableBytes nbits w) = .instr i := by
  unfold decodeTableWord
  split <;> simp_all

end Sys2Proof

namespace Sys2Proof.Machine

/-- The line of a trace that stands for an operation is presented as the message or the event that decodes to it. -/
theorem inputOfTraceLine_cases {bytes : List Byte} {i : Instr} (h : decodeTraceLine bytes = .instr i) :
    (inputOfTraceLine bytes = .port bytes ∧ decodeMessage bytes = .instr i) ∨
    (inputOfTraceLine bytes = .event bytes ∧ decodeEvent bytes = .instr i) := by
  unfold decodeTraceLine at h
  unfold inputOfTraceLine
  split_ifs at h ⊢
  · exact .inr ⟨rfl, h⟩
  · exact .inl ⟨rfl, h⟩

/-- An event that stands for an operation is taken where it is presented, once no byte has priority (R51, R116). -/
theorem nextOp_of_event {s : State} {e : List Byte} {rest : List Input} {i : Instr} (h : s.inputs = .event e :: rest)
    (hprio : s.priorityByte = none) (he : decodeEvent e = .instr i) : nextOp s = .run i (s.setInputs rest) := by
  rw [nextOp_of_priorityByte_none hprio]
  simp [presentedOp, h, he]

/-- An empty transport has no byte to deliver (R116). -/
theorem priorityByte_of_transport_nil {s : State} (h : s.transport = []) : s.priorityByte = none := by
  simp [State.priorityByte, h]

/-- Settles O50: a message and an event are each the next operation, taken from what is presented. -/
theorem stepRunsPresentedOperation : Obligations.StepRunsPresentedOperation := by
  intro s x rest i hq hin hprio hx
  rcases hx with ⟨m, rfl, hm⟩ | ⟨e, rfl, he⟩
  · exact step_of_nextOp_run hq (nextOp_of_port hin hm)
  · exact step_of_nextOp_run hq (nextOp_of_event hin hprio he)

/-- A word placed for a message of the port stands before what is presented, the transport as it was (log 13). -/
theorem withFetchWord_of_port {s : State} {nbits w : Nat}
    (h : inputOfTraceLine (tableBytes nbits w) = .port (tableBytes nbits w)) :
    s.withFetchWord nbits w = s.setInputs (.port (tableBytes nbits w) :: s.inputs) := by
  simp only [State.withFetchWord, h]
  rfl

/-- A word placed for an event stands before what is presented, the transport empty (log 13). -/
theorem withFetchWord_of_event {s : State} {nbits w : Nat}
    (h : inputOfTraceLine (tableBytes nbits w) = .event (tableBytes nbits w)) :
    s.withFetchWord nbits w = (s.setTransport []).setInputs (.event (tableBytes nbits w) :: s.inputs) := by
  simp only [State.withFetchWord, h]
  rfl

/-- Settles O51: the word is a message, which nothing precedes, or an event, before which the emptied transport has no
byte to deliver. -/
theorem fetchWordRunsNext : Obligations.FetchWordRunsNext := by
  intro s nbits w i hq hword
  rcases inputOfTraceLine_cases (decodeTableWord_eq_some.1 hword) with ⟨hline, hm⟩ | ⟨hline, he⟩
  · rw [withFetchWord_of_port hline, isEvent_of_decodeMessage hm]
    exact step_of_nextOp_run hq (nextOp_of_port rfl hm)
  · rw [withFetchWord_of_event hline, isEvent_of_decodeEvent he]
    exact step_of_nextOp_run hq (nextOp_of_event rfl (priorityByte_of_transport_nil rfl) he)

end Sys2Proof.Machine
end

section
/-! The decoder and the encoder invert each other on the operations that can be presented (R69 to R77). -/

namespace Sys2Proof

open Machine (be16 hiByte loByte be16_hi_lo hiByte_be16 loByte_be16)

/-- A message of one byte has no operand byte (R73, R74). -/
theorem decodeNoOperand_eq_instr_iff {i j : Instr} {l : List Byte} : decodeNoOperand j l = .instr i ↔ l = [] ∧ i = j := by
  cases l with
  | nil => simp [decodeNoOperand, eq_comm]
  | cons x xs => simp [decodeNoOperand]

/-- The operands of ENCODE that are accepted are those the encoder writes for a payload of at most 255 bytes (R70,
R74). -/
theorem decodeEncodeOperands_eq_instr_iff {i : Instr} {l : List Byte} : decodeEncodeOperands l = .instr i ↔
    ∃ ss dd cc p, i = .encode ss dd cc p ∧ p.length ≤ 255 ∧ l = ss :: dd :: cc :: BitVec.ofNat 8 p.length :: p := by
  constructor
  · intro h
    unfold decodeEncodeOperands at h
    split at h
    · next ss dd cc nn p =>
      split_ifs at h with hlen
      cases h
      obtain ⟨hlt, rfl⟩ := BitVec.nat_eq_toNat.1 hlen
      exact ⟨ss, dd, cc, p, rfl, by omega, rfl⟩
    · cases h
  · rintro ⟨ss, dd, cc, p, rfl, hp, rfl⟩
    have hlen : p.length = (BitVec.ofNat 8 p.length).toNat := BitVec.nat_eq_toNat.2 ⟨by omega, rfl⟩
    exact if_pos hlen

/-- The operands of DECODE that are accepted are those the encoder writes for a buffer of at most 65535 bytes (R71,
R74). -/
theorem decodeDecodeOperands_eq_instr_iff {i : Instr} {l : List Byte} : decodeDecodeOperands l = .instr i ↔
    ∃ b, i = .decode b ∧ b.length ≤ 65535 ∧
      l = hiByte (BitVec.ofNat 16 b.length) :: loByte (BitVec.ofNat 16 b.length) :: b := by
  constructor
  · intro h
    unfold decodeDecodeOperands at h
    split at h
    · next mh ml b =>
      split_ifs at h with hlen
      cases h
      obtain ⟨hlt, hm⟩ := BitVec.nat_eq_toNat.1 hlen
      exact ⟨b, rfl, by omega, by rw [← hm, hiByte_be16, loByte_be16]⟩
    · cases h
  · rintro ⟨b, rfl, hb, rfl⟩
    have hlen : b.length = (BitVec.ofNat 16 b.length).toNat := BitVec.nat_eq_toNat.2 ⟨by omega, rfl⟩
    exact if_pos (by rw [be16_hi_lo]; exact hlen)

/-- The operands of RX_ARM are the two bytes of its deadline (R72, R74). -/
theorem decodeRxArmOperands_eq_instr_iff {i : Instr} {l : List Byte} : decodeRxArmOperands l = .instr i ↔
    ∃ T, i = .rxArm T ∧ l = [hiByte T, loByte T] := by
  constructor
  · intro h
    unfold decodeRxArmOperands at h
    split at h
    · next th tl =>
      cases h
      exact ⟨be16 th tl, rfl, by rw [hiByte_be16, loByte_be16]⟩
    · cases h
  · rintro ⟨T, rfl, rfl⟩
    simp [decodeRxArmOperands]

/-- The data of an RX_BYTE event are its byte (R76). -/
theorem decodeRxByteData_eq_instr_iff {i : Instr} {l : List Byte} : decodeRxByteData l = .instr i ↔
    ∃ b, i = .rxByte b ∧ l = [b] := by
  constructor
  · intro h
    unfold decodeRxByteData at h
    split at h
    · next b => cases h; exact ⟨b, rfl, rfl⟩
    · cases h
  · rintro ⟨b, rfl, rfl⟩
    rfl

/-- A TICK event has no data (R76). -/
theorem decodeTickData_eq_instr_iff {i : Instr} {l : List Byte} : decodeTickData l = .instr i ↔ l = [] ∧ i = .tick := by
  cases l with
  | nil => simp [decodeTickData, eq_comm]
  | cons x xs => simp [decodeTickData]

/-- The opcodes outside 0x00..0x04 are those the decoder compares with none of its rows (R75). -/
theorem isReservedMessage_cons_iff {op : Byte} {rest : List Byte} : isReservedMessage (op :: rest) = true ↔
    op ≠ 0x00 ∧ op ≠ 0x01 ∧ op ≠ 0x02 ∧ op ≠ 0x03 ∧ op ≠ 0x04 := by
  rw [isReservedMessage, decide_eq_true_iff]
  constructor
  · intro h
    refine ⟨?_, ?_, ?_, ?_, ?_⟩ <;> (rintro rfl; exact absurd h (by decide))
  · rintro ⟨h0, h1, h2, h3, h4⟩
    bv_omega

/-- A reserved message stands for RESERVED_CMD with the whole message (R75). -/
theorem decodeMessage_of_reserved {m : List Byte} (h : isReservedMessage m = true) :
    decodeMessage m = .instr (.reservedCmd m) := by
  cases m with
  | nil => rfl
  | cons op rest =>
    obtain ⟨h0, h1, h2, h3, h4⟩ := isReservedMessage_cons_iff.1 h
    simp only [decodeMessage, if_neg h0, if_neg h1, if_neg h2, if_neg h3, if_neg h4]

/-- An event with a reserved tag stands for RESERVED_EVENT (R77). -/
theorem decodeEvent_of_reserved {tag : Byte} (h : isReservedTag tag = true) (data : List Byte) :
    decodeEvent (tag :: data) = .instr (.reservedEvent tag data) := by
  have hbyte : tag ≠ 0x80 := by rintro rfl; exact absurd h (by decide)
  have htick : tag ≠ 0x81 := by rintro rfl; exact absurd h (by decide)
  simp only [decodeEvent, if_neg hbyte, if_neg htick, if_pos h]

/-- The message of an operation of the port decodes to it (R69 to R75). -/
theorem decodeMessage_encode {i : Instr} (hwf : WellFormed i = true) (hev : i.isEvent = false) :
    decodeMessage (encode i) = .instr i := by
  cases i with
  | nop => rfl
  | encode ss dd cc p => exact decodeEncodeOperands_eq_instr_iff.2 ⟨ss, dd, cc, p, rfl, of_decide_eq_true hwf, rfl⟩
  | decode b => exact decodeDecodeOperands_eq_instr_iff.2 ⟨b, rfl, of_decide_eq_true hwf, rfl⟩
  | rxArm T => exact decodeRxArmOperands_eq_instr_iff.2 ⟨T, rfl, rfl⟩
  | reset => rfl
  | reservedCmd m => exact decodeMessage_of_reserved hwf
  | rxByte b => cases hev
  | tick => cases hev
  | reservedEvent tag data => cases hev

/-- The bytes of an event decode to it (R76, R77). -/
theorem decodeEvent_encode {i : Instr} (hwf : WellFormed i = true) (hev : i.isEvent = true) :
    decodeEvent (encode i) = .instr i := by
  cases i with
  | rxByte b => rfl
  | tick => rfl
  | reservedEvent tag data => exact decodeEvent_of_reserved hwf data
  | nop => cases hev
  | encode ss dd cc p => cases hev
  | decode b => cases hev
  | rxArm T => cases hev
  | reset => cases hev
  | reservedCmd m => cases hev

/-- A message that decodes is the message of what it decodes to, whose operands are in range (R69 to R75). -/
theorem encode_of_decodeMessage {m : List Byte} {i : Instr} (h : decodeMessage m = .instr i) :
    encode i = m ∧ WellFormed i = true := by
  cases m with
  | nil => cases h; exact ⟨rfl, rfl⟩
  | cons op rest =>
    simp only [decodeMessage] at h
    split_ifs at h with h0 h1 h2 h3 h4
    · subst h0
      obtain ⟨rfl, rfl⟩ := decodeNoOperand_eq_instr_iff.1 h
      exact ⟨rfl, rfl⟩
    · subst h1
      obtain ⟨ss, dd, cc, p, rfl, hp, rfl⟩ := decodeEncodeOperands_eq_instr_iff.1 h
      exact ⟨rfl, decide_eq_true hp⟩
    · subst h2
      obtain ⟨b, rfl, hb, rfl⟩ := decodeDecodeOperands_eq_instr_iff.1 h
      exact ⟨rfl, decide_eq_true hb⟩
    · subst h3
      obtain ⟨T, rfl, rfl⟩ := decodeRxArmOperands_eq_instr_iff.1 h
      exact ⟨rfl, rfl⟩
    · subst h4
      obtain ⟨rfl, rfl⟩ := decodeNoOperand_eq_instr_iff.1 h
      exact ⟨rfl, rfl⟩
    · cases h
      exact ⟨rfl, (isReservedMessage_cons_iff (rest := rest)).2 ⟨h0, h1, h2, h3, h4⟩⟩

/-- Event bytes that decode are the bytes of what they decode to, whose tag is in range (R76, R77). -/
theorem encode_of_decodeEvent {e : List Byte} {i : Instr} (h : decodeEvent e = .instr i) :
    encode i = e ∧ WellFormed i = true := by
  cases e with
  | nil => cases h
  | cons tag data =>
    simp only [decodeEvent] at h
    split_ifs at h with hbyte htick hres
    · subst hbyte
      obtain ⟨b, rfl, rfl⟩ := decodeRxByteData_eq_instr_iff.1 h
      exact ⟨rfl, rfl⟩
    · subst htick
      obtain ⟨rfl, rfl⟩ := decodeTickData_eq_instr_iff.1 h
      exact ⟨rfl, rfl⟩
    · cases h
      exact ⟨rfl, hres⟩

/-- Settles O48, by the two cases of what an operation is presented as: an event, or a message of the port. -/
theorem decodeEncodeInstr : Obligations.DecodeEncodeInstr := by
  intro i hwf
  split_ifs with hev
  · exact decodeEvent_encode hwf hev
  · exact decodeMessage_encode hwf (Bool.eq_false_iff.2 hev)

/-- Settles O49: each row of the decoder accepts only what the encoder writes for it. -/
theorem encodeDecodeInstr : Obligations.EncodeDecodeInstr := by
  refine fun bytes i => ⟨fun h => ?_, fun h => ?_⟩
  · obtain ⟨henc, hwf⟩ := encode_of_decodeMessage h
    exact ⟨henc, hwf, isEvent_of_decodeMessage h⟩
  · obtain ⟨henc, hwf⟩ := encode_of_decodeEvent h
    exact ⟨henc, hwf, isEvent_of_decodeEvent h⟩

/-- Settles O47, by running the decoder on the nine words. -/
theorem wordsFromLayoutsDecode : Obligations.WordsFromLayoutsDecode :=
  ⟨rfl, rfl, rfl, rfl, rfl, rfl, rfl, rfl, rfl⟩

end Sys2Proof
end

section
/-! The bytes of a frame sum to 0 mod 256 (R65). -/

namespace Sys2Proof.Machine

/-- A slice that begins inside its sequence's first `j + 1` bytes grows by the next byte. -/
theorem slice_succ {b : List Byte} {i j : Nat} (hij : i ≤ j + 1) (hj : j + 1 < b.length) :
    slice b i (j + 1) = slice b i j ++ [byteAt b (j + 1)] := by
  have hlen : j + 1 + 1 - i = (j + 1 - i) + 1 := by omega
  have hidx : i + (j + 1 - i) = j + 1 := by omega
  simp only [slice, hlen]
  rw [List.take_add_one, List.getElem?_drop, hidx, List.getElem?_eq_getElem hj]
  simp [byteAt, List.getD_eq_getElem?_getD, List.getElem?_eq_getElem hj]

/-- A slice followed by its checksum sums to 0 mod 256 (R64, R65). -/
theorem byteSum_slice_mod_of_checksum {b : List Byte} {i j : Nat} (hij : i ≤ j + 1) (hj : j + 1 < b.length)
    (h : checksum (slice b i j) = byteAt b (j + 1)) : byteSum (slice b i (j + 1)) % 256 = 0 := by
  calc byteSum (slice b i (j + 1)) % 256
      = (byteSum (slice b i j) + (checksum (slice b i j)).toNat) % 256 := by
        rw [slice_succ hij hj, byteSum_append, byteSum_cons, byteSum_nil, h, Nat.add_zero]
    _ = 0 := add_neg8_mod _

/-- ENCODE answers a frame only for a payload of at most 252 bytes, and the frame is the sequence F (R83, R84). -/
theorem encodeFrame_eq_some_iff {ss dd cc : Byte} {p f : List Byte} :
    encodeFrame ss dd cc p = some f ↔ p.length ≤ maxPayload ∧ f = frameBytes ss dd cc p := by
  rcases Nat.lt_or_ge maxPayload p.length with hp | hp
  · simp [encodeFrame_of_lt hp, Nat.not_le.2 hp]
  · simp [encodeFrame_of_le hp, hp, eq_comm]

/-- Settles O6: in a frame that is built and in one that is accepted, the last byte is the checksum of the bytes from
offset 1 before it. -/
theorem frameBytesSumToZero : Obligations.FrameBytesSumToZero := by
  refine ⟨fun ss dd cc p f h => ?_, fun b f h => ?_⟩
  · obtain ⟨hp, rfl⟩ := encodeFrame_eq_some_iff.1 h
    rw [byteAt_frameBytes_one, toNat_lenfield hp]
    apply byteSum_slice_mod_of_checksum (by omega) (by simp)
    rw [slice_frameBytes_covered, byteAt_frameBytes_last]
  · obtain ⟨-, -, hsize, hcheck, -⟩ := decodeFrame_frame h
    exact byteSum_slice_mod_of_checksum (by omega) (by omega) hcheck

end Sys2Proof.Machine
end

section
/-! Messages the port rejects (R74, R75), and events that are refused (R77, R121). -/

namespace Sys2Proof

open Machine (byteAt byteAt_cons_zero be16_toNat)

/-- No message of the port is ill-formed: the port rejects what it cannot perform (R74, R75). -/
theorem decodeMessage_ne_illFormedEvent (m : List Byte) : decodeMessage m ≠ .illFormedEvent := by
  have hnone : ∀ (i : Instr) (l : List Byte), decodeNoOperand i l ≠ .illFormedEvent := by
    rintro i (_ | _) <;> nofun
  have hencode : ∀ l : List Byte, decodeEncodeOperands l ≠ .illFormedEvent := by
    intro l
    unfold decodeEncodeOperands
    split
    · split_ifs <;> nofun
    · nofun
  have hdecode : ∀ l : List Byte, decodeDecodeOperands l ≠ .illFormedEvent := by
    intro l
    unfold decodeDecodeOperands
    split
    · split_ifs <;> nofun
    · nofun
  have hrxArm : ∀ l : List Byte, decodeRxArmOperands l ≠ .illFormedEvent := by
    intro l
    unfold decodeRxArmOperands
    split <;> nofun
  cases m with
  | nil => nofun
  | cons op rest =>
    simp only [decodeMessage]
    split_ifs
    · exact hnone _ _
    · exact hencode _
    · exact hdecode _
    · exact hrxArm _
    · exact hnone _ _
    · nofun

/-- NOP and RESET are one byte (R73, R88). -/
theorem layoutLength_of_no_operand {m : List Byte} (h : byteAt m 0 = 0x00 ∨ byteAt m 0 = 0x04) : layoutLength m = 1 := by
  rcases h with h | h <;> simp [layoutLength, h]

/-- ENCODE is five bytes and its payload, which nn counts (R70). -/
theorem layoutLength_of_encode {m : List Byte} (h : byteAt m 0 = 0x01) :
    layoutLength m = 5 + (byteAt m 4).toNat := by
  simp [layoutLength, h]

/-- DECODE is three bytes and its buffer, which the big-endian m counts (R71). -/
theorem layoutLength_of_decode {m : List Byte} (h : byteAt m 0 = 0x02) :
    layoutLength m = 3 + ((byteAt m 1).toNat * 256 + (byteAt m 2).toNat) := by
  simp [layoutLength, h, be16_toNat]

/-- RX_ARM is three bytes (R72). -/
theorem layoutLength_of_rxArm {m : List Byte} (h : byteAt m 0 = 0x03) : layoutLength m = 3 := by
  simp [layoutLength, h]

/-- Every operation with a layout is encoded in as many bytes as its layout gives (R70 to R73, R76). -/
theorem length_encode_eq_layoutLength {i : Instr} (hwf : WellFormed i = true)
    (hlay : Laws.EncodeLength.hasLayout i = true) : (encode i).length = layoutLength (encode i) := by
  revert hwf hlay
  cases i with
  | nop => exact Laws.EncodeLength.nop
  | encode ss dd cc p => exact Laws.EncodeLength.encode ss dd cc p
  | decode b => exact Laws.EncodeLength.decode b
  | rxArm T => exact Laws.EncodeLength.rxArm T
  | reset => exact Laws.EncodeLength.reset
  | reservedCmd m => exact Laws.EncodeLength.reservedCmd m
  | rxByte b => exact Laws.EncodeLength.rxByte b
  | tick => exact Laws.EncodeLength.tick
  | reservedEvent tag data => exact Laws.EncodeLength.reservedEvent tag data

/-- A message with a defined opcode that decodes has the length its layout gives (R70 to R74). -/
theorem length_of_decodeMessage {m : List Byte} {i : Instr} (hdef : isReservedMessage m = false)
    (h : decodeMessage m = .instr i) : m.length = layoutLength m := by
  obtain ⟨rfl, hwf⟩ := encode_of_decodeMessage h
  have hev := isEvent_of_decodeMessage h
  apply length_encode_eq_layoutLength hwf
  cases i with
  | reservedCmd m => exact absurd (hdef.symm.trans hwf) (by decide)
  | reservedEvent tag data => cases hev
  | _ => rfl

/-- A message with a defined opcode and another length than its layout gives is no operation (R74). -/
theorem decodeMessage_of_wrong_length {m : List Byte} (hdef : isReservedMessage m = false)
    (hlen : m.length ≠ layoutLength m) : decodeMessage m = .badOperand := by
  cases hm : decodeMessage m with
  | instr i => exact absurd (length_of_decodeMessage hdef hm) hlen
  | badOperand => rfl
  | illFormedEvent => exact absurd hm (decodeMessage_ne_illFormedEvent m)

/-- A message is reserved exactly when it is empty or its first byte is no opcode 0x00..0x04 (R75). -/
theorem isReservedMessage_iff {m : List Byte} :
    isReservedMessage m = true ↔ m = [] ∨ 5 ≤ (byteAt m 0).toNat := by
  cases m with
  | nil => simp [isReservedMessage]
  | cons op rest =>
    simp only [isReservedMessage, decide_eq_true_iff, byteAt_cons_zero, reduceCtorEq, false_or]
    omega

end Sys2Proof

namespace Sys2Proof.Machine

/-- A message of the wrong length is taken and rejected with BadOperand (R74). -/
theorem step_of_port_badOperand {s : State} {m : List Byte} {rest : List Input} (hq : s.cfg.qTicks ≠ 0)
    (h : s.inputs = .port m :: rest) (hm : decodeMessage m = .badOperand) :
    step s = .next ((s.setInputs rest).setCmdStatus .badOperand) := by
  have hnext : nextOp s = .reject (s.setInputs rest) := by
    rw [nextOp_of_priorityByte_none (priorityByte_of_port h)]
    simp [presentedOp, h, hm]
  simp [step, (legal_iff s.cfg).2 hq, hnext]

/-- A reserved message is taken and rejected with BadOp (R75). -/
theorem step_of_port_reserved {s : State} {m : List Byte} {rest : List Input} (hq : s.cfg.qTicks ≠ 0)
    (h : s.inputs = .port m :: rest) (hm : isReservedMessage m = true) :
    step s = .next ((s.setInputs rest).setCmdStatus .badOp) :=
  step_of_nextOp_run hq (nextOp_of_port h (decodeMessage_of_reserved hm))

/-- Taking a message and giving a verdict on it touches neither the Serializer nor the Synchronizer (R74, R75). -/
theorem setInputs_setCmdStatus_frame (s : State) (xs : List Input) (st : Status) :
    SameSerializer s ((s.setInputs xs).setCmdStatus st) ∧ SameSynchronizer s ((s.setInputs xs).setCmdStatus st) :=
  ⟨⟨rfl, rfl, rfl⟩, ⟨rfl, rfl, rfl, rfl, rfl, rfl, rfl, rfl⟩⟩

/-- Settles O39: the meaning of RESERVED_CMD is the write of CMD_STATUS alone. -/
theorem reservedCommandOnlyRejects : Obligations.ReservedCommandOnlyRejects := by
  intro m s
  obtain ⟨hser, hsync⟩ := setInputs_setCmdStatus_frame s s.inputs .badOp
  exact ⟨s.setCmdStatus .badOp, rfl, rfl, hser, rfl, hsync, rfl, rfl, rfl⟩

/-- Settles O38: such a message is reserved, so the step rejects it. -/
theorem undefinedOpcodeRejected : Obligations.UndefinedOpcodeRejected := by
  intro s m rest hq hin hm
  obtain ⟨hser, hsync⟩ := setInputs_setCmdStatus_frame s rest .badOp
  exact ⟨_, step_of_port_reserved hq hin (isReservedMessage_iff.2 hm), rfl, rfl, rfl, rfl, rfl, hser, rfl, hsync⟩

/-- Settles O40: each of the five forms has a defined opcode and another length than its layout gives. -/
theorem wrongLengthRejected : Obligations.WrongLengthRejected := by
  intro s m rest hq hin hne hform
  have hdef : isReservedMessage m = false := by
    rw [Bool.eq_false_iff, ne_eq, isReservedMessage_iff, not_or]
    refine ⟨hne, ?_⟩
    rcases hform with ⟨hop, -⟩ | ⟨hop, -⟩ | ⟨hop, -⟩ | ⟨hop, -⟩ | ⟨hop, -⟩ <;> (rw [hop]; decide)
  have hlen : m.length ≠ layoutLength m := by
    rcases hform with ⟨hop, h⟩ | ⟨hop, h⟩ | ⟨hop, h⟩ | ⟨hop, h⟩ | ⟨hop, h⟩
    · rwa [layoutLength_of_no_operand (.inl hop)]
    · rw [layoutLength_of_encode hop]; omega
    · rw [layoutLength_of_decode hop]; omega
    · rwa [layoutLength_of_rxArm hop]
    · rwa [layoutLength_of_no_operand (.inr hop)]
  obtain ⟨hser, hsync⟩ := setInputs_setCmdStatus_frame s rest .badOperand
  exact ⟨_, step_of_port_badOperand hq hin (decodeMessage_of_wrong_length hdef hlen), rfl, rfl, rfl, rfl, rfl, hser,
    rfl, hsync⟩

/-- Settles O42: the meaning of RESERVED_EVENT is the refusal. -/
theorem reservedEventRefused : Obligations.ReservedEventRefused := fun _ _ _ => rfl

/-- Delivery priority has nothing to deliver before an event other than a TICK (R116). -/
theorem priorityByte_of_event_ne_tick {s : State} {e : List Byte} {rest : List Input} (h : s.inputs = .event e :: rest)
    (he : decodeEvent e ≠ .instr .tick) : s.priorityByte = none := by
  simp [State.priorityByte, h, yieldsToTransport, he]

/-- RX_READY is 0 exactly while RX_STATE is OFF (R38). -/
theorem rxReady_eq_false_iff (s : State) : s.rxReady = false ↔ s.rxState = .off := by
  unfold State.rxReady
  cases s.rxState <;> simp

/-- An RX_BYTE while RX_STATE is OFF is refused (R121). -/
theorem exec_rxByte_of_off {s : State} (hs : s.rxState = .off) (b : Byte) :
    exec (.rxByte b) s = .refused .rxByteWhileOff := by
  simp only [exec, execRxByte, hs]

/-- An event other than a TICK is performed where it is presented (R51). -/
theorem step_of_event_ne_tick {s : State} {e : List Byte} {rest : List Input} {i : Instr} (hq : s.cfg.qTicks ≠ 0)
    (h : s.inputs = .event e :: rest) (he : decodeEvent e = .instr i) (hi : i ≠ .tick) :
    step s = exec i (s.setInputs rest) := by
  have hprio : s.priorityByte = none := priorityByte_of_event_ne_tick h (by rw [he]; simpa using hi)
  exact step_of_nextOp_run hq (nextOp_of_event h hprio he)

/-- Settles O41: both events are performed where they are presented, and their meanings refuse them. -/
theorem illFormedTraceRefused : Obligations.IllFormedTraceRefused := by
  refine fun s rest hq => ⟨fun tag data hin htag => ?_, fun b hin hready => ?_⟩
  · rw [step_of_event_ne_tick hq hin (decodeEvent_of_reserved (decide_eq_true htag) data) (by simp)]
    exact reservedEventRefused tag data _
  · have hdec : decodeEvent [0x80, b] = .instr (.rxByte b) := rfl
    rw [step_of_event_ne_tick hq hin hdec (by simp)]
    have hoff : (s.setInputs rest).rxState = .off := (rxReady_eq_false_iff s).1 hready
    exact exec_rxByte_of_off hoff b

end Sys2Proof.Machine
end

section
/-! What NOP and ENCODE write, and what a frame's offsets hold (R56, R81 to R92). -/

namespace Sys2Proof.Machine

/-- The writes of an ENCODE touch neither the Synchronizer nor what is outside the block (R40). -/
theorem setCmdStatus_setTx_frame (s : State) (cmd : Status) (buf : Buffer 258) (len : Count9) (st : Status) :
    SameSynchronizer s ((s.setCmdStatus cmd).setTx buf len st) ∧
      SameSurroundings s ((s.setCmdStatus cmd).setTx buf len st) :=
  ⟨⟨rfl, rfl, rfl, rfl, rfl, rfl, rfl, rfl⟩, ⟨rfl, rfl, rfl⟩⟩

/-- What ENCODE writes for a payload of at most 252 bytes (R83). -/
theorem exec_encode_of_le {p : List Byte} (hp : p.length ≤ maxPayload) (ss dd cc : Byte) (s : State) :
    exec (.encode ss dd cc p) s = .next ((s.setCmdStatus .ok).setTx (Buffer.ofList 258 (frameBytes ss dd cc p))
      (BitVec.ofNat 9 (frameBytes ss dd cc p).length) .ok) := by
  simp only [exec, execEncode, encodeFrame_of_le hp]

/-- What ENCODE writes for a longer payload (R84). -/
theorem exec_encode_of_lt {p : List Byte} (hp : maxPayload < p.length) (ss dd cc : Byte) (s : State) :
    exec (.encode ss dd cc p) s = .next ((s.setCmdStatus .ok).setTx (Buffer.zero 258) 0 .payloadTooLarge) := by
  simp only [exec, execEncode, encodeFrame_of_lt hp]

@[simp] theorem byteAt_frameBytes_two (ss dd cc : Byte) (p : List Byte) :
    byteAt (frameBytes ss dd cc p) 2 = ss := rfl

@[simp] theorem byteAt_frameBytes_three (ss dd cc : Byte) (p : List Byte) :
    byteAt (frameBytes ss dd cc p) 3 = dd := rfl

@[simp] theorem byteAt_frameBytes_four (ss dd cc : Byte) (p : List Byte) :
    byteAt (frameBytes ss dd cc p) 4 = cc := rfl

/-- A frame is five header bytes, the payload and the checksum (R56). -/
theorem drop_five_frameBytes (ss dd cc : Byte) (p : List Byte) :
    (frameBytes ss dd cc p).drop 5 = p ++ [checksum (coveredBytes ss dd cc p)] := rfl

/-- Payload byte `i` stands at offset `5 + i` (R56). -/
theorem byteAt_frameBytes_payload (ss dd cc : Byte) {p : List Byte} {i : Nat} (hi : i < p.length) :
    byteAt (frameBytes ss dd cc p) (5 + i) = byteAt p i := by
  calc byteAt (frameBytes ss dd cc p) (5 + i)
      = byteAt ((frameBytes ss dd cc p).drop 5) i := by simp [byteAt]
    _ = byteAt p i := by rw [drop_five_frameBytes, byteAt_append_left _ _ hi]

/-- The offsets 5 to L+1 are the payload (R56, R92). -/
theorem slice_frameBytes_payload (ss dd cc : Byte) (p : List Byte) :
    slice (frameBytes ss dd cc p) 5 (p.length + 4) = p := by
  rw [slice, drop_five_frameBytes]
  exact List.take_left' rfl

/-- The checksum byte of a frame in TX_BUF, as a number (R64, R85). -/
theorem State.HoldsFrame.toNat_check {s : State} (h : s.HoldsFrame) :
    (s.txBuf.get ((s.txBuf.get 1).toNat + 2)).toNat =
      (256 - byteSum (slice s.txBuf.bytes 1 ((s.txBuf.get 1).toNat + 1)) % 256) % 256 := by
  rw [h.check, checksum, toNat_neg8]

/-- The bytes of a frame in TX_BUF from offset 1 through the checksum sum to 0 mod 256 (R65, R85). -/
theorem State.HoldsFrame.byteSum_mod {s : State} (h : s.HoldsFrame) :
    byteSum (slice s.txBuf.bytes 1 ((s.txBuf.get 1).toNat + 2)) % 256 = 0 := by
  have hlen := s.txBuf.length
  exact byteSum_slice_mod_of_checksum (by omega) (by omega) h.check.symm

/-- Settles O4: the state holds a whole frame, whose header and payload are read off the sequence F. -/
theorem encodeWritesFrame : Obligations.EncodeWritesFrame := by
  intro ss dd cc p s hp
  have hget : ∀ i, (Buffer.ofList 258 (frameBytes ss dd cc p)).get i = byteAt (frameBytes ss dd cc p) i :=
    Buffer.get_ofList (by rw [length_frameBytes]; omega)
  have hfield : ((Buffer.ofList 258 (frameBytes ss dd cc p)).get 1).toNat = p.length + 3 := by
    rw [hget, byteAt_frameBytes_one, toNat_lenfield hp]
  have hframe := setTx_frameBytes_holdsFrame (s.setCmdStatus .ok) ss dd cc hp .ok
  have hsize := hframe.size
  have hcheck := hframe.toNat_check
  have hsum := hframe.byteSum_mod
  have hrest := hframe.rest
  obtain ⟨hsync, hsurr⟩ := setCmdStatus_setTx_frame s .ok (Buffer.ofList 258 (frameBytes ss dd cc p))
    (BitVec.ofNat 9 (frameBytes ss dd cc p).length) .ok
  rw [State.setTx_txBuf, hfield] at hsize hcheck hsum
  rw [hsize] at hrest
  exact ⟨_, exec_encode_of_le hp ss dd cc s, rfl, rfl, hsize, hframe.first, hfield, hget 2, hget 3, hget 4,
    fun i hi => (hget _).trans (byteAt_frameBytes_payload ss dd cc hi), hcheck, hsum, hrest, rfl, hsync, hsurr⟩

/-- A wrapping 8-bit accumulator that starts at `acc` ends at the reduced sum (R89). -/
theorem foldl_add_eq_ofNat_byteSum (b : List Byte) (acc : Byte) :
    b.foldl (· + ·) acc = acc + BitVec.ofNat 8 (byteSum b) := by
  induction b generalizing acc with
  | nil => simp
  | cons x xs ih => rw [List.foldl_cons, ih, byteSum_cons, BitVec.ofNat_add, BitVec.ofNat_toNat, BitVec.setWidth_eq,
      BitVec.add_assoc]

/-- neg8 is the negation of 8-bit words (R14). -/
theorem neg8_eq_neg (v : Nat) : neg8 v = -BitVec.ofNat 8 v := by
  apply BitVec.eq_of_toNat_eq
  rw [toNat_neg8, BitVec.toNat_neg, BitVec.toNat_ofNat]

/-- Each byte adds at most 255 to a sum (R14). -/
theorem byteSum_le (b : List Byte) : byteSum b ≤ 255 * b.length := by
  induction b with
  | nil => simp
  | cons x xs ih =>
    rw [byteSum_cons, List.length_cons]
    omega

/-- Settles O7: negation and sum commute with the reduction mod 256, and at most 256 bytes are covered. -/
theorem wrappingAccumulatorGivesChecksum : Obligations.WrappingAccumulatorGivesChecksum := by
  refine ⟨fun b => ?_, fun ss dd cc p hp => ?_⟩
  · rw [checksum, neg8_eq_neg, foldl_add_eq_ofNat_byteSum, BitVec.ofNat_eq_ofNat, BitVec.zero_add]
  · have hsum := byteSum_le (coveredBytes ss dd cc p)
    rw [length_coveredBytes] at hsum
    omega

/-- The operands of a frame that ENCODE answers, read off its offsets (R92). -/
theorem encodeFrame_operands {ss dd cc : Byte} {p f : List Byte} (h : encodeFrame ss dd cc p = some f) :
    byteAt f 2 = ss ∧ byteAt f 3 = dd ∧ byteAt f 4 = cc ∧ slice f 5 ((byteAt f 1).toNat + 1) = p := by
  obtain ⟨hp, rfl⟩ := encodeFrame_eq_some_iff.1 h
  rw [byteAt_frameBytes_one, toNat_lenfield hp]
  exact ⟨rfl, rfl, rfl, slice_frameBytes_payload ss dd cc p⟩

/-- Settles O8: both operand tuples are what the one frame's offsets hold. -/
theorem encodeFrameInjective : Obligations.EncodeFrameInjective := by
  refine ⟨fun ss dd cc p f h => encodeFrame_operands h, fun ss dd cc ss' dd' cc' p p' f h h' => ?_⟩
  obtain ⟨hss, hdd, hcc, hp⟩ := encodeFrame_operands h
  obtain ⟨hss', hdd', hcc', hp'⟩ := encodeFrame_operands h'
  exact ⟨hss.symm.trans hss', hdd.symm.trans hdd', hcc.symm.trans hcc', hp.symm.trans hp'⟩

/-- Settles O3: NOP's meaning is the write of CMD_STATUS alone, and its message has no operand bytes. -/
theorem nopOnlyAcknowledges : Obligations.NopOnlyAcknowledges := by
  refine ⟨rfl, rfl, fun s => ?_, fun s x xs rest hq hin => ?_⟩
  · obtain ⟨hser, hsync⟩ := setInputs_setCmdStatus_frame s s.inputs .ok
    exact ⟨s.setCmdStatus .ok, rfl, rfl, rfl, hser, rfl, hsync, ⟨rfl, rfl, rfl⟩⟩
  · have hdec : decodeMessage (0x00 :: x :: xs) = .badOperand := rfl
    exact ⟨_, step_of_port_badOperand hq hin hdec, rfl⟩

/-- Settles O5: such a payload has no frame, and ENCODE clears TX_BUF. -/
theorem encodeRefusesLongPayload : Obligations.EncodeRefusesLongPayload := by
  intro ss dd cc p s hp
  obtain ⟨hsync, hsurr⟩ := setCmdStatus_setTx_frame s .ok (Buffer.zero 258) 0 .payloadTooLarge
  exact ⟨_, exec_encode_of_lt hp ss dd cc s, rfl, rfl, rfl, rfl, Buffer.get_zero 258, rfl, hsync, hsurr⟩

end Sys2Proof.Machine
end

section
/-! When decode answers each error, which buffers it accepts, and what DECODE writes (R93 to R110). -/

namespace Sys2Proof.Machine

/-- The five outcomes of decode, each with the checks before it passed (R94 to R100). -/
theorem decodeFrame_cases (b : List Byte) :
    (decodeFrame b = .error .tooShort ∧ b.length < 6) ∨
    (decodeFrame b = .error .badHeader ∧ 6 ≤ b.length ∧ byteAt b 0 ≠ sentinel) ∨
    (decodeFrame b = .error .sizeMismatch ∧ 6 ≤ b.length ∧ byteAt b 0 = sentinel ∧
      b.length ≠ (byteAt b 1).toNat + 3) ∨
    (decodeFrame b = .error .checksumMismatch ∧ 6 ≤ b.length ∧ byteAt b 0 = sentinel ∧
      b.length = (byteAt b 1).toNat + 3 ∧
      checksum (slice b 1 ((byteAt b 1).toNat + 1)) ≠ byteAt b ((byteAt b 1).toNat + 2)) ∨
    ∃ f, decodeFrame b = .frame f := by
  unfold decodeFrame
  split_ifs with hmin hfirst hsize hcheck
  · exact .inl ⟨rfl, hmin⟩
  · exact .inr (.inl ⟨rfl, not_lt.1 hmin, hfirst⟩)
  · exact .inr (.inr (.inl ⟨rfl, not_lt.1 hmin, not_not.1 hfirst, hsize⟩))
  · exact .inr (.inr (.inr (.inl ⟨rfl, not_lt.1 hmin, not_not.1 hfirst, not_not.1 hsize, hcheck⟩)))
  · exact .inr (.inr (.inr (.inr ⟨_, rfl⟩)))

/-- The checksum of a sequence is a byte exactly when their numbers agree (R64, R98). -/
theorem checksum_eq_iff (l : List Byte) (v : Byte) :
    checksum l = v ↔ (256 - byteSum l % 256) % 256 = v.toNat := by
  rw [← BitVec.toNat_inj, checksum, toNat_neg8]

/-- Settles O9: the conditions of the five outcomes exclude each other. -/
theorem decodeChecksInOrder : Obligations.DecodeChecksInOrder := by
  intro b
  have hsent : (0x3B : Byte) = sentinel := rfl
  simp only [hsent, ne_eq, ← checksum_eq_iff]
  rcases decodeFrame_cases b with ⟨hd, hmin⟩ | ⟨hd, hmin, hfirst⟩ | ⟨hd, hmin, hfirst, hsize⟩ |
    ⟨hd, hmin, hfirst, hsize, hcheck⟩ | ⟨f, hd⟩
  · simp [hd, hmin]
  · simp [hd, hmin, hfirst]
  · simp [hd, hmin, hfirst, hsize]
  · simp [hd, hmin, hfirst, hcheck, ← hsize]
  · obtain ⟨hmin, hfirst, hsize, hcheck, -⟩ := decodeFrame_frame hd
    simp [hd, hmin, hfirst, hcheck, ← hsize]

/-- A buffer that passes the four checks is a frame (R99). -/
theorem decodeFrame_of_checks {b : List Byte} (hmin : 6 ≤ b.length) (hfirst : byteAt b 0 = sentinel)
    (hsize : b.length = (byteAt b 1).toNat + 3)
    (hcheck : checksum (slice b 1 ((byteAt b 1).toNat + 1)) = byteAt b ((byteAt b 1).toNat + 2)) :
    decodeFrame b = .frame
      { src := byteAt b 2, dst := byteAt b 3, cmd := byteAt b 4, len := byteAt b 1
        payload := slice b 5 ((byteAt b 1).toNat + 1) } := by
  have hshort : ¬ b.length < minFrame := not_lt.2 hmin
  rw [decodeFrame, if_neg hshort, if_neg (not_not_intro hfirst), if_neg (not_not_intro hsize),
    if_neg (not_not_intro hcheck)]

/-- decode accepts every frame ENCODE builds, and reads the operands back (R104). -/
theorem decodeFrame_frameBytes (ss dd cc : Byte) {p : List Byte} (hp : p.length ≤ maxPayload) :
    decodeFrame (frameBytes ss dd cc p) =
      .frame { src := ss, dst := dd, cmd := cc, len := lenfield p.length, payload := p } := by
  have hlen : (byteAt (frameBytes ss dd cc p) 1).toNat = p.length + 3 := toNat_lenfield hp
  have hmin : 6 ≤ (frameBytes ss dd cc p).length := by simp
  have hcheck : checksum (slice (frameBytes ss dd cc p) 1 (p.length + 4)) =
      byteAt (frameBytes ss dd cc p) (p.length + 5) := by
    rw [slice_frameBytes_covered, byteAt_frameBytes_last]
  rw [decodeFrame_of_checks hmin rfl (by rw [hlen, length_frameBytes]) (by rw [hlen]; exact hcheck), hlen,
    slice_frameBytes_payload]
  rfl

/-- A slice begins with the byte at its first offset (R14). -/
theorem slice_eq_cons {b : List Byte} {i j : Nat} (hij : i ≤ j) (hi : i < b.length) :
    slice b i j = byteAt b i :: slice b (i + 1) j := by
  have hlen : j + 1 - i = (j + 1 - (i + 1)) + 1 := by omega
  rw [slice, hlen, List.drop_eq_getElem_cons hi, List.take_succ_cons]
  simp [slice, byteAt, List.getElem?_eq_getElem hi]

/-- A whole sequence is its slice from offset 0 to its last byte (R14). -/
theorem slice_zero_of_length {b : List Byte} {j : Nat} (h : b.length = j + 1) : slice b 0 j = b := by
  simp [slice, ← h]

/-- decode accepts exactly the frames F, and reads F's operands back (R99, R104, R105). -/
theorem decodeFrame_eq_frame_iff {b : List Byte} {f : Frame} :
    decodeFrame b = .frame f ↔ f.payload.length ≤ maxPayload ∧ f.len = lenfield f.payload.length ∧
      b = frameBytes f.src f.dst f.cmd f.payload := by
  constructor
  case mpr =>
    rintro ⟨hp, hlen, rfl⟩
    rw [decodeFrame_frameBytes _ _ _ hp, ← hlen]
  case mp =>
    intro h
    obtain ⟨hmin, hfirst, hsize, hcheck, rfl⟩ := decodeFrame_frame h
    have hpayload : (slice b 5 ((byteAt b 1).toNat + 1)).length + 3 = (byteAt b 1).toNat := by
      rw [length_slice (by omega)]; omega
    have hp : (slice b 5 ((byteAt b 1).toNat + 1)).length ≤ maxPayload := by simp only [maxPayload]; omega
    have hlen : byteAt b 1 = lenfield (slice b 5 ((byteAt b 1).toNat + 1)).length :=
      BitVec.eq_of_toNat_eq (by rw [toNat_lenfield hp, hpayload])
    have hcovered : slice b 1 ((byteAt b 1).toNat + 1) = coveredBytes (byteAt b 2) (byteAt b 3) (byteAt b 4)
        (slice b 5 ((byteAt b 1).toNat + 1)) := by
      rw [coveredBytes, ← hlen, slice_eq_cons (by omega) (by omega), slice_eq_cons (by omega) (by omega),
        slice_eq_cons (by omega) (by omega), slice_eq_cons (by omega) (by omega)]
    refine ⟨hp, hlen, ?_⟩
    calc b = slice b 0 ((byteAt b 1).toNat + 2) := (slice_zero_of_length hsize).symm
      _ = byteAt b 0 :: slice b 1 ((byteAt b 1).toNat + 2) := slice_eq_cons (by omega) (by omega)
      _ = byteAt b 0 :: (slice b 1 ((byteAt b 1).toNat + 1) ++ [byteAt b ((byteAt b 1).toNat + 2)]) := by
        rw [slice_succ (by omega) (by omega)]
      _ = frameBytes (byteAt b 2) (byteAt b 3) (byteAt b 4) (slice b 5 ((byteAt b 1).toNat + 1)) := by
        rw [← hcheck, hfirst, hcovered]
        rfl

/-- The length field of an accepted frame counts its payload and three bytes more (R59, R99). -/
theorem toNat_len_of_decodeFrame {b : List Byte} {f : Frame} (h : decodeFrame b = .frame f) :
    f.len.toNat = f.payload.length + 3 := by
  obtain ⟨hp, hlen, -⟩ := decodeFrame_eq_frame_iff.1 h
  rw [hlen, toNat_lenfield hp]

/-- Settles O11: the frame is F, which decode accepts. -/
theorem decodeEncodeFrameRoundTrip : Obligations.DecodeEncodeFrameRoundTrip := by
  intro ss dd cc p f h
  obtain ⟨hp, rfl⟩ := encodeFrame_eq_some_iff.1 h
  exact ⟨lenfield p.length, (toNat_lenfield hp).trans (Nat.add_comm _ _), decodeFrame_frameBytes ss dd cc hp⟩

/-- Settles O12: an accepted buffer is the frame F of its fields, and the round trip gives the other direction. -/
theorem encodeDecodeFrameRoundTrip : Obligations.EncodeDecodeFrameRoundTrip := by
  have hencode : ∀ (b : List Byte) (f : Frame), decodeFrame b = .frame f →
      encodeFrame f.src f.dst f.cmd f.payload = some b := by
    intro b f h
    obtain ⟨hp, -, hb⟩ := decodeFrame_eq_frame_iff.1 h
    exact encodeFrame_eq_some_iff.2 ⟨hp, hb⟩
  refine ⟨hencode, fun b => ⟨fun ⟨f, h⟩ => ⟨_, _, _, _, hencode b f h⟩, fun ⟨ss, dd, cc, p, h⟩ => ?_⟩⟩
  obtain ⟨len, -, hd⟩ := decodeEncodeFrameRoundTrip ss dd cc p b h
  exact ⟨_, hd⟩

/-- What DECODE writes (R93). -/
theorem exec_decode (b : List Byte) (s : State) :
    exec (.decode b) s = .next ((s.setCmdStatus .ok).setDecRes (recordOf (decodeFrame b))) := rfl

/-- The writes of a DECODE touch neither the Serializer, nor the Synchronizer, nor what is outside the block (R40). -/
theorem setCmdStatus_setDecRes_frame (s : State) (cmd : Status) (r : ResultRecord) :
    SameSerializer s ((s.setCmdStatus cmd).setDecRes r) ∧ SameSynchronizer s ((s.setCmdStatus cmd).setDecRes r) ∧
      SameSurroundings s ((s.setCmdStatus cmd).setDecRes r) :=
  ⟨⟨rfl, rfl, rfl⟩, ⟨rfl, rfl, rfl, rfl, rfl, rfl, rfl, rfl⟩, ⟨rfl, rfl, rfl⟩⟩

/-- A failed decode's record has its error status and zeros everywhere else (R28, R101). -/
theorem recordOf_failedWith {r : DecodeResult} {e : FrameError} (h : r = .error e) :
    (recordOf r).FailedWith e.status ∧ (recordOf r).status.code = e.status.code := by
  subst h
  exact ⟨⟨rfl, rfl, rfl, rfl, rfl, rfl, Buffer.get_zero 252⟩, rfl⟩

/-- Settles O10: a frame's record is whole, and its payload bytes are the frame's payload. -/
theorem decodeWritesRecord : Obligations.DecodeWritesRecord := by
  intro b s
  obtain ⟨hser, hsync, hsurr⟩ := setCmdStatus_setDecRes_frame s .ok (recordOf (decodeFrame b))
  refine ⟨_, exec_decode b s, rfl, fun f h => ?_, recordOf_failedWith, recordOf_failedWith, recordOf_failedWith,
    recordOf_failedWith, hser, hsync, hsurr⟩
  have hok := recordOf_decodeFrame_ok b
  have hlen := toNat_len_of_decodeFrame h
  obtain ⟨hp, -, -⟩ := decodeFrame_eq_frame_iff.1 h
  obtain ⟨-, -, -, -, hf⟩ := decodeFrame_frame h
  rw [State.setDecRes_decRes]
  rw [h] at hok ⊢
  obtain ⟨-, hplen, hzeros⟩ := hok.success rfl
  rw [recordOf_frame_len, hlen, Nat.add_sub_cancel] at hplen
  rw [hplen]
  have htake := Buffer.take_ofList hp
  subst hf
  exact ⟨rfl, rfl, rfl, rfl, rfl, rfl, hlen.symm, htake, fun i hi => hzeros i (hplen.trans_le hi)⟩

/-- A buffer of at least six bytes whose length is not the one its length field gives (R96, R97). -/
theorem decodeFrame_of_length_ne {b : List Byte} (hmin : 6 ≤ b.length) (hsize : b.length ≠ (byteAt b 1).toNat + 3) :
    decodeFrame b = .error (if byteAt b 0 = sentinel then .sizeMismatch else .badHeader) := by
  obtain ⟨-, hheader, hmismatch, -⟩ := decodeChecksInOrder b
  split_ifs with hfirst
  · exact hmismatch.2 ⟨hmin, hfirst, hsize⟩
  · exact hheader.2 ⟨hmin, hfirst⟩

/-- A buffer of less than six bytes (R95). -/
theorem decodeFrame_of_length_lt {b : List Byte} (h : b.length < 6) : decodeFrame b = .error .tooShort := by
  obtain ⟨hshort, -⟩ := decodeChecksInOrder b
  exact hshort.2 h

/-- Bytes after a whole frame make its buffer longer than the length field says (R97, R103). -/
theorem decodeFrame_append {b more : List Byte} {f : Frame} (h : decodeFrame b = .frame f) (hmore : more ≠ []) :
    decodeFrame (b ++ more) = .error .sizeMismatch := by
  obtain ⟨hmin, hfirst, hsize, -, -⟩ := decodeFrame_frame h
  have hpos := List.length_pos_of_ne_nil hmore
  rw [decodeFrame_of_length_ne, byteAt_append_left _ _ (by omega), if_pos hfirst]
  · rw [List.length_append]; omega
  · rw [List.length_append, byteAt_append_left _ _ (by omega)]; omega

/-- Settles O13: each buffer named has another length than its length field gives. -/
theorem acceptedBufferBounds : Obligations.AcceptedBufferBounds := by
  refine ⟨fun b f h => ?_, fun b hfield => ?_, fun b hlong => ?_, rfl, fun b b' f f' h h' => ?_⟩
  · obtain ⟨hmin, -, hsize, -, -⟩ := decodeFrame_frame h
    obtain ⟨hp, -, -⟩ := decodeFrame_eq_frame_iff.1 h
    exact ⟨by omega, hp, by omega⟩
  · by_cases hmin : b.length < 6
    · rw [if_pos hmin, decodeFrame_of_length_lt hmin]
    · rw [if_neg hmin]
      exact decodeFrame_of_length_ne (by omega) (by omega)
  · exact decodeFrame_of_length_ne (by omega) (by omega)
  · refine decodeFrame_append h ?_
    rintro rfl
    cases h'

/-- All bytes of a frame sum to the sentinel, mod 256 (R65). -/
theorem byteSum_mod_of_decodeFrame {b : List Byte} {f : Frame} (h : decodeFrame b = .frame f) :
    byteSum b % 256 = 0x3B := by
  obtain ⟨-, -, hb⟩ := decodeFrame_eq_frame_iff.1 h
  have hsum := add_neg8_mod (byteSum (coveredBytes f.src f.dst f.cmd f.payload))
  have hsent : sentinel.toNat = 0x3B := rfl
  rw [hb, frameBytes, byteSum_cons, byteSum_append, byteSum_cons, byteSum_nil, checksum, hsent]
  omega

/-- Reading after a change of the byte at an offset inside the sequence. -/
theorem byteAt_set {b : List Byte} {i : Nat} (hi : i < b.length) (v : Byte) (j : Nat) :
    byteAt (b.set i v) j = if j = i then v else byteAt b j := by
  by_cases h : j = i
  · subst h; simp [byteAt, hi]
  · simp [byteAt, h, List.getElem?_set_ne (Ne.symm h)]

/-- A change of one byte changes the sum by the difference (R107). -/
theorem byteSum_set {b : List Byte} {i : Nat} (hi : i < b.length) (v : Byte) :
    byteSum (b.set i v) + (byteAt b i).toNat = byteSum b + v.toNat := by
  induction b generalizing i with
  | nil => simp at hi
  | cons x xs ih =>
    cases i with
    | zero => simp only [List.set_cons_zero, byteSum_cons, byteAt_cons_zero]; omega
    | succ i =>
      have := ih (Nat.lt_of_succ_lt_succ hi)
      simp only [List.set_cons_succ, byteSum_cons, byteAt_cons_succ]
      omega

/-- Two frames never differ in one byte alone (R107). -/
theorem decodeFrame_set_ne_frame {b : List Byte} {f : Frame} {i : Nat} {v : Byte} (h : decodeFrame b = .frame f)
    (hi : i < b.length) (hv : v ≠ byteAt b i) (f' : Frame) : decodeFrame (b.set i v) ≠ .frame f' := by
  intro h'
  have hsum := byteSum_mod_of_decodeFrame h
  have hsum' := byteSum_mod_of_decodeFrame h'
  have hset := byteSum_set hi v
  exact hv (BitVec.eq_of_toNat_eq (by omega))

/-- Settles O14: before the checksum check only offsets 0 and 1 play a part, and no other offset passes it. -/
theorem singleByteChangeDetected : Obligations.SingleByteChangeDetected := by
  intro b f i v h hi hv
  obtain ⟨hmin, hfirst, hsize, -, -⟩ := decodeFrame_frame h
  have hlen : (b.set i v).length = b.length := List.length_set
  by_cases h0 : i = 0
  · subst h0
    obtain ⟨-, hheader, -⟩ := decodeChecksInOrder (b.set 0 v)
    rw [if_pos rfl, hheader, byteAt_set hi, if_pos rfl]
    exact ⟨by omega, fun hv0 => hv (hv0.trans hfirst.symm)⟩
  have hfirst' : byteAt (b.set i v) 0 = sentinel := by rw [byteAt_set hi, if_neg (Ne.symm h0), hfirst]
  rw [if_neg h0]
  by_cases h1 : i = 1
  · subst h1
    rw [if_pos rfl, decodeFrame_of_length_ne (by omega), if_pos hfirst']
    rw [byteAt_set hi, if_pos rfl]
    exact fun hsize' => hv (BitVec.eq_of_toNat_eq (by omega))
  have hfield' : byteAt (b.set i v) 1 = byteAt b 1 := by rw [byteAt_set hi, if_neg (Ne.symm h1)]
  rw [if_neg h1]
  rcases decodeFrame_cases (b.set i v) with ⟨-, hc⟩ | ⟨-, -, hc⟩ | ⟨-, -, -, hc⟩ | ⟨hd, -⟩ | ⟨f', hd⟩
  · omega
  · exact absurd hfirst' hc
  · rw [hfield'] at hc; omega
  · exact hd
  · exact absurd hd (decodeFrame_set_ne_frame h hi hv f')

/-- A sum does not depend on the order of the bytes (R110). -/
theorem byteSum_perm {a b : List Byte} (h : a.Perm b) : byteSum a = byteSum b := (h.map _).sum_eq

/-- Source, destination, command and payload of a frame stand at the offsets 2 to L+1 (R56). -/
theorem slice_frameBytes_body (ss dd cc : Byte) (p : List Byte) :
    slice (frameBytes ss dd cc p) 2 (p.length + 4) = ss :: dd :: cc :: p := by
  have hcovered := slice_frameBytes_covered ss dd cc p
  rw [slice_eq_cons (by omega) (by simp)] at hcovered
  exact (List.cons.inj hcovered).2

/-- Frames whose bytes 2 to L+1 are the same up to their order have the same length field and checksum (R110). -/
theorem frameBytes_of_perm {ss dd cc ss' dd' cc' : Byte} {p p' : List Byte}
    (h : (ss' :: dd' :: cc' :: p').Perm (ss :: dd :: cc :: p)) :
    frameBytes ss' dd' cc' p' = (frameBytes ss dd cc p).take 2 ++ (ss' :: dd' :: cc' :: p') ++
      (frameBytes ss dd cc p).drop (p.length + 5) := by
  have hlen : p'.length = p.length := by simpa using h.length_eq
  have hsum := byteSum_perm (h.cons (lenfield p.length))
  have hcheck : checksum (coveredBytes ss' dd' cc' p') = checksum (coveredBytes ss dd cc p) := by
    rw [checksum, checksum, coveredBytes, coveredBytes, hlen, hsum]
  have hdrop : (frameBytes ss dd cc p).drop (p.length + 5) = [checksum (coveredBytes ss dd cc p)] := by
    rw [Nat.add_comm, ← List.drop_drop, drop_five_frameBytes, List.drop_left]
  rw [hdrop, ← hcheck, frameBytes, coveredBytes, hlen]
  rfl

/-- Settles O15: the reordered buffer is the frame F of the reordered operands. -/
theorem reorderingNotDetected : Obligations.ReorderingNotDetected := by
  intro b f q h hq
  have hlen := toNat_len_of_decodeFrame h
  obtain ⟨hp, -, rfl⟩ := decodeFrame_eq_frame_iff.1 h
  rw [hlen] at hq ⊢
  rw [slice_frameBytes_body] at hq
  match q, hq, hq.length_eq with
  | ss :: dd :: cc :: p, hq, hcount =>
    have hp' : p.length ≤ maxPayload := by simp only [List.length_cons] at hcount; omega
    have hframe := frameBytes_of_perm hq
    exact ⟨_, hframe ▸ decodeFrame_frameBytes ss dd cc hp'⟩

end Sys2Proof.Machine
end

section
/-! When RX_ARM starts a receive, and what an ended receive leaves until then (R112 to R114, R139). -/

namespace Sys2Proof.Machine

/-- RX_ARM with a deadline of 0 is rejected in every state (R114). -/
theorem exec_rxArm_zero (s : State) : exec (.rxArm 0) s = .next (s.setCmdStatus .badOperand) := rfl

/-- A verdict on a message touches CMD_STATUS alone (R22, R40). -/
theorem setCmdStatus_frame (s : State) (st : Status) :
    SameSerializer s (s.setCmdStatus st) ∧ (s.setCmdStatus st).decRes = s.decRes ∧
      SameSynchronizer s (s.setCmdStatus st) ∧ SameSurroundings s (s.setCmdStatus st) :=
  ⟨⟨rfl, rfl, rfl⟩, rfl, ⟨rfl, rfl, rfl, rfl, rfl, rfl, rfl, rfl⟩, ⟨rfl, rfl, rfl⟩⟩

theorem sameSurroundings_iff (s t : State) :
    SameSurroundings s t ↔ t.cfg = s.cfg ∧ t.transport = s.transport ∧ t.inputs = s.inputs :=
  ⟨fun h => ⟨h.cfg, h.transport, h.inputs⟩, fun ⟨hcfg, htransport, hinputs⟩ => ⟨hcfg, htransport, hinputs⟩⟩

/-- Settles O16: the fields are those `startReceive` writes after the port's OK. -/
theorem rxArmStartsReceive : Obligations.RxArmStartsReceive := by
  intro T s hT hoff
  refine ⟨_, exec_rxArm_of_off hT hoff, ?_⟩
  simp [State.rxReady, State.rxDone, sameSerializer_iff, sameSurroundings_iff]

/-- Settles O17: either rejection is a write of CMD_STATUS and nothing else. -/
theorem rxArmRejections : Obligations.RxArmRejections := by
  intro T s h
  by_cases hT : T = 0
  · subst hT
    exact ⟨_, exec_rxArm_zero s, rfl, rfl, setCmdStatus_frame s .badOperand⟩
  · have hon : s.rxState ≠ .off := h.resolve_left hT
    simp only [if_neg hT]
    exact ⟨_, exec_rxArm_of_ne_off hT hon, rfl, rfl, setCmdStatus_frame s .busy⟩

theorem SameSynchronizer.refl (s : State) : SameSynchronizer s s := ⟨rfl, rfl, rfl, rfl, rfl, rfl, rfl, rfl⟩

theorem SameSynchronizer.trans {s t u : State} (h : SameSynchronizer s t) (h' : SameSynchronizer t u) :
    SameSynchronizer s u where
  rxState := h'.rxState.trans h.rxState
  rxBuf := h'.rxBuf.trans h.rxBuf
  rxCnt := h'.rxCnt.trans h.rxCnt
  rxOvf := h'.rxOvf.trans h.rxOvf
  rxPrep := h'.rxPrep.trans h.rxPrep
  qrem := h'.qrem.trans h.qrem
  orem := h'.orem.trans h.orem
  rxRes := h'.rxRes.trans h.rxRes

/-- A run begins with its first operation. -/
theorem execAll_cons_of_exec {i : Instr} {s t : State} (h : exec i s = .next t) (rest : List Instr) :
    execAll (i :: rest) s = execAll rest t := by
  simp [execAll, h]

/-- A run that answers a next state has performed its first operation. -/
theorem execAll_cons_next {i : Instr} {rest : List Instr} {s t : State} (h : execAll (i :: rest) s = .next t) :
    ∃ u, exec i s = .next u ∧ execAll rest u = .next t := by
  cases hi : exec i s with
  | next u => exact ⟨u, rfl, by rwa [execAll_cons_of_exec hi] at h⟩
  | fault r => simp [execAll, hi] at h
  | refused r => simp [execAll, hi] at h

/-- A run goes on from where its first part ends. -/
theorem execAll_append_of_execAll {ops rest : List Instr} {s t : State} (h : execAll ops s = .next t) :
    execAll (ops ++ rest) s = execAll rest t := by
  induction ops generalizing s with
  | nil => cases h; rfl
  | cons i ops ih =>
    obtain ⟨u, hi, hrest⟩ := execAll_cons_next h
    rw [List.cons_append, execAll_cons_of_exec hi, ih hrest]

/-- Settles O37: no operation of the run writes the Synchronizer's fields while RX_STATE is OFF, so OFF it stays. -/
theorem resultStaysUntilRearmed : Obligations.ResultStaysUntilRearmed := by
  intro ops
  induction ops with
  | nil =>
    intro s t _ h _
    cases h
    exact .refl s
  | cons i ops ih =>
    intro s t hoff h hops
    obtain ⟨u, hi, hrest⟩ := execAll_cons_next h
    obtain ⟨hreset, harm⟩ := hops i List.mem_cons_self
    have hsame : SameSynchronizer s u := exec_sameSynchronizer_of_off hoff hi hreset harm
    exact hsame.trans (ih u t (hsame.rxState.trans hoff) hrest fun j hj => hops j (List.mem_cons_of_mem i hj))

end Sys2Proof.Machine
end

section
/-! What a byte taken does to a receive, and which bytes are taken (R115 to R122). -/

namespace Sys2Proof.Machine

/-- The first byte of a receive: it is taken from the transport and stored (R117). -/
theorem exec_rxByte_of_idle {b : Byte} {s : State} (hs : s.rxState = .idle)
    (hb : s.transport = [] ∨ s.transport.head? = some b) :
    exec (.rxByte b) s = .next (collectFirst b (s.setTransport s.transport.tail)) := by
  simp only [exec, execRxByte, hs, takeOldest_isSome hb]

/-- A byte taken in COLLECTING (R118, R119). -/
theorem exec_rxByte_of_collecting {b : Byte} {s : State} (hs : s.rxState = .collecting)
    (hb : s.transport = [] ∨ s.transport.head? = some b) :
    exec (.rxByte b) s = .next (collectNext b (s.setTransport s.transport.tail)) := by
  simp only [exec, execRxByte, hs, takeOldest_isSome hb]

/-- A byte that is not the oldest held is refused while a receive is in progress (R115, log 6). -/
theorem exec_rxByte_of_not_oldest {b : Byte} {s : State} (hs : s.rxState ≠ .off) (hb : s.takeOldest b = none) :
    exec (.rxByte b) s = .refused .notOldestByte := by
  cases hst : s.rxState with
  | off => exact absurd hst hs
  | idle => simp only [exec, execRxByte, hst, hb]
  | collecting => simp only [exec, execRxByte, hst, hb]

/-- A further byte is stored while RX_CNT is below 258 (R118). -/
theorem collectNext_of_lt {s : State} (h : s.rxCnt.toNat < 258) (b : Byte) :
    collectNext b s = (s.storeByte s.rxCnt b).restartQuiet := if_pos h

/-- A byte that finds the buffer full is dropped and marks the overflow (R119). -/
theorem collectNext_of_le {s : State} (h : 258 ≤ s.rxCnt.toNat) (b : Byte) :
    collectNext b s = s.markOverflow.restartQuiet := if_neg (Nat.not_lt.2 h)

/-- The collected bytes are read from RX_BUF and RX_CNT alone. -/
@[simp] theorem State.restartQuiet_collected (s : State) : s.restartQuiet.collected = s.collected := rfl
@[simp] theorem State.setTransport_collected (s : State) (held : List Byte) :
    (s.setTransport held).collected = s.collected := rfl

/-- RX_CNT does not wrap while the buffer has room (R32). -/
theorem toNat_rxCnt_storeByte {s : State} (h : s.rxCnt.toNat < 258) (b : Byte) :
    (s.storeByte s.rxCnt b).rxCnt.toNat = s.rxCnt.toNat + 1 := by
  rw [State.storeByte_rxCnt]
  bv_omega

/-- The first byte collected is the whole sequence collected (R117). -/
theorem collected_collectFirst (b : Byte) (s : State) : (collectFirst b s).collected = [b] :=
  Buffer.take_set_succ s.rxBuf (by decide : 0 < 258) b

/-- A byte stored at RX_CNT joins the end of the collected bytes (R118). -/
theorem collected_storeByte {s : State} (h : s.rxCnt.toNat < 258) (b : Byte) :
    (s.storeByte s.rxCnt b).collected = s.collected ++ [b] := by
  rw [State.collected, toNat_rxCnt_storeByte h, State.storeByte_rxBuf, Buffer.take_set_succ _ h]
  rfl

/-- Settles O18: the byte is written at index 0 of RX_BUF. -/
theorem firstByteStartsCollecting : Obligations.FirstByteStartsCollecting := by
  intro b s hs hb
  have hget : ∀ i, (s.rxBuf.set 0 b).get i = if i = 0 then b else s.rxBuf.get i :=
    Buffer.get_set s.rxBuf (by decide) b
  refine ⟨_, exec_rxByte_of_idle hs hb, ?_⟩
  simp +contextual [collectFirst, hget, sameSerializer_iff]

/-- Settles O19: the byte is written at index RX_CNT of RX_BUF, which has room for it. -/
theorem furtherByteAppends : Obligations.FurtherByteAppends := by
  intro b s hs hcnt hb
  have hexec := exec_rxByte_of_collecting hs hb
  rw [collectNext_of_lt (s := s.setTransport s.transport.tail) hcnt] at hexec
  have hget : ∀ i, (s.rxBuf.set s.rxCnt.toNat b).get i = if i = s.rxCnt.toNat then b else s.rxBuf.get i :=
    Buffer.get_set s.rxBuf hcnt b
  have hwidth : s.rxCnt.toNat + 1 < 512 := by omega
  have hbytes := collected_storeByte (s := s.setTransport s.transport.tail) hcnt b
  refine ⟨_, hexec, ?_⟩
  simpa +contextual [hs, hget, hwidth, sameSerializer_iff] using hbytes

/-- Settles O20: a full buffer leaves RX_OVF and QREM as the only fields written. -/
theorem byteBeyondCapacityOverflows : Obligations.ByteBeyondCapacityOverflows := by
  intro b s hs hcnt hb
  have hexec := exec_rxByte_of_collecting hs hb
  rw [collectNext_of_le (s := s.setTransport s.transport.tail) hcnt] at hexec
  refine ⟨_, hexec, ?_⟩
  simp [hs, sameSerializer_iff]

/-- What every byte taken leaves, whichever way it is taken: a full quiet period in COLLECTING, the deadline and the
statuses as they were (R120, R122). -/
theorem exec_rxByte_next {b : Byte} {s t : State} (h : exec (.rxByte b) s = .next t) :
    t.qrem = s.cfg.qTicks ∧ t.orem = s.orem ∧ t.cmdStatus = s.cmdStatus ∧ t.rxRes = s.rxRes ∧
      t.rxState = .collecting := by
  obtain ⟨s1, htake, hcases⟩ := execRxByte_next h
  obtain ⟨held, rfl⟩ := takeOldest_state htake
  rcases hcases with ⟨-, rfl⟩ | ⟨hs, -, rfl⟩ | ⟨hs, -, rfl⟩
  · simp [collectFirst]
  · simp [hs]
  · simp [hs]

/-- A message of the port other than RESET does not end a receive: it leaves RX_STATE as it is (R40, R113). -/
theorem rxState_ne_off_of_message {i : Instr} {s t : State} (hmsg : i.isEvent = false) (hreset : i ≠ .reset)
    (hon : s.rxState ≠ .off) (h : exec i s = .next t) : t.rxState ≠ .off := by
  cases i with
  | nop => cases h; exact hon
  | encode ss dd cc p =>
    simp only [exec, execEncode] at h
    split at h <;> cases h <;> exact hon
  | decode b => cases h; exact hon
  | rxArm T =>
    rcases execRxArm_next h with ⟨-, rfl⟩ | ⟨-, hoff, -⟩ | ⟨-, -, rfl⟩
    · exact hon
    · exact absurd hoff hon
    · exact hon
  | reset => exact absurd rfl hreset
  | reservedCmd m => cases h; exact hon
  | rxByte b => cases hmsg
  | tick => cases hmsg
  | reservedEvent tag data => cases hmsg

/-- Settles O21: of the events, RX_BYTE leaves COLLECTING and a reserved one answers no state, so TICK is the one event
that can end a receive, and RESET the one message. -/
theorem byteTakenNeverEndsReceive : Obligations.ByteTakenNeverEndsReceive := by
  refine ⟨fun b s t => exec_rxByte_next, fun i s t hon h hoff => ?_⟩
  by_contra hother
  push Not at hother
  obtain ⟨htick, hreset⟩ := hother
  cases hmsg : i.isEvent with
  | false => exact rxState_ne_off_of_message hmsg hreset hon h hoff
  | true =>
    cases i with
    | rxByte b =>
      obtain ⟨-, -, -, -, hcollecting⟩ := exec_rxByte_next h
      exact absurd (hcollecting.symm.trans hoff) (by decide)
    | tick => exact htick rfl
    | reservedEvent tag data => cases h
    | nop | encode | decode | rxArm | reset | reservedCmd => cases hmsg

/-- Settles O22: the transport's oldest byte is another one, so there is none to take. -/
theorem rxByteRefusals : Obligations.RxByteRefusals := by
  refine fun b s => ⟨fun hoff => exec_rxByte_of_off hoff b, fun o rest hon htr hne => ?_⟩
  have htake : s.takeOldest b = none := by simp [State.takeOldest, htr, hne]
  exact exec_rxByte_of_not_oldest hon htake

end Sys2Proof.Machine
end

section
/-! The steps that take the transport's bytes before a TICK (R115, R116). -/

namespace Sys2Proof.Machine

/-- RX_READY is 1 exactly while a receive is in progress (R38). -/
theorem rxReady_iff (s : State) : s.rxReady = true ↔ s.rxState ≠ .off := by
  rw [ne_eq, ← rxReady_eq_false_iff, Bool.not_eq_false]

/-- While a receive is in progress the oldest byte held is taken, and leaves the transport (R115). -/
theorem exec_rxByte_of_head {b : Byte} {bs : List Byte} {s : State} (hon : s.rxState ≠ .off)
    (htr : s.transport = b :: bs) : ∃ t, exec (.rxByte b) s = .next t ∧ t.transport = bs := by
  have hb : s.transport = [] ∨ s.transport.head? = some b := .inr (by rw [htr]; rfl)
  cases hs : s.rxState with
  | off => exact absurd hs hon
  | idle =>
    refine ⟨_, exec_rxByte_of_idle hs hb, ?_⟩
    rw [htr]; rfl
  | collecting =>
    refine ⟨_, exec_rxByte_of_collecting hs hb, ?_⟩
    rw [htr]
    unfold collectNext
    split <;> rfl

/-- Delivery priority makes the oldest byte the next input, before a TICK or when nothing is presented (R116). -/
theorem nextOp_of_yieldsToTransport {b : Byte} {bs : List Byte} {s : State} (hready : s.rxReady = true)
    (htr : s.transport = b :: bs) (hin : yieldsToTransport s.inputs = true) : nextOp s = .run (.rxByte b) s := by
  simp [nextOp, State.priorityByte, hready, htr, hin]

/-- Settles O52: the byte is the next operation, and an RX_BYTE keeps the deadline. -/
theorem deliveryPriority : Obligations.DeliveryPriority := by
  intro s b bs rest hq hready htr hin
  have hyield : yieldsToTransport s.inputs = true := by
    rcases hin with hin | hin <;> rw [hin] <;> rfl
  obtain ⟨t, hexec, htail⟩ := exec_rxByte_of_head ((rxReady_iff s).1 hready) htr
  obtain ⟨-, horem, -, -, hcollecting⟩ := exec_rxByte_next hexec
  have hstep : step s = .next t := (step_of_nextOp_run hq (nextOp_of_yieldsToTransport hready htr hyield)).trans hexec
  exact ⟨t, hstep, hexec, htail, (exec_keeps_cfg_inputs hexec).2, horem, hcollecting⟩

/-- A run of the machine begins with its first step. -/
theorem core_run_succ_of_step {s t : State} (h : step s = .next t) (k : Nat) :
    Sys2Proof.core.run (k + 1) s = Sys2Proof.core.run k t := by
  have hcore : Sys2Proof.core.step s = .next t := h
  simp only [Host.Core.run, hcore]

/-- Settles O53, by induction on what the transport holds: each step takes its oldest byte and no time passes. -/
theorem transportDrainsBeforeTick : Obligations.TransportDrainsBeforeTick := by
  intro s rest hq hready hin
  induction htr : s.transport generalizing s with
  | nil => exact ⟨s, rfl, htr, rfl, rfl, hready⟩
  | cons b bs ih =>
    obtain ⟨u, hstep, -, hbs, hinputs, horem, hcollecting⟩ := deliveryPriority s b bs rest hq hready htr (.inr hin)
    have hlegal : u.cfg.qTicks ≠ 0 := by rw [step_cfg hstep]; exact hq
    have hready' : u.rxReady = true := (rxReady_iff u).2 (by rw [hcollecting]; decide)
    obtain ⟨t, hrun, hempty, hkept, hclock, hdone⟩ := ih u hlegal hready' (hinputs.trans hin) hbs
    exact ⟨t, (core_run_succ_of_step hstep bs.length).trans hrun, hempty, hkept.trans hinputs,
      hclock.trans horem, hdone⟩

end Sys2Proof.Machine
end

section
/-! What one TICK does in each state of the Synchronizer (R123 to R131). -/

namespace Sys2Proof.Machine

variable {s : State}

/-- TICK while OFF (R124). -/
theorem exec_tick_of_off (hs : s.rxState = .off) : exec .tick s = .next s := by
  simp only [exec, execTick, hs]

/-- TICK in IDLE before the deadline's last tick (R125). -/
theorem exec_tick_of_idle (hs : s.rxState = .idle) (ho : s.orem ≠ 1) : exec .tick s = .next s.countDeadline := by
  have hlate : s.countDeadline.orem ≠ 0 := sub_ne_zero.2 ho
  simp only [exec, execTick, hs, tickIdle, if_neg hlate]

/-- The deadline's last TICK in IDLE: no byte has come (R125). -/
theorem exec_tick_of_idle_last (hs : s.rxState = .idle) (ho : s.orem = 1) :
    exec .tick s = .next (s.countDeadline.endReceive (.blank .noData)) := by
  have hlast : s.countDeadline.orem = 0 := sub_eq_zero.2 ho
  simp only [exec, execTick, hs, tickIdle, if_pos hlast]

/-- TICK in COLLECTING at the last tick of neither timer (R126). -/
theorem exec_tick_of_collecting (hs : s.rxState = .collecting) (hq : s.qrem ≠ 1) (ho : s.orem ≠ 1) :
    exec .tick s = .next s.countQuiet.countDeadline := by
  have hquiet : s.countQuiet.countDeadline.qrem ≠ 0 := sub_ne_zero.2 hq
  have hlate : s.countQuiet.countDeadline.orem ≠ 0 := sub_ne_zero.2 ho
  simp only [exec, execTick, hs, tickCollecting, if_neg hquiet, if_neg hlate]

/-- The quiet period's last TICK finalizes, whatever the deadline is (R126, R131). -/
theorem exec_tick_of_quiet_last (hs : s.rxState = .collecting) (hq : s.qrem = 1) :
    exec .tick s = .next (finalize s.countQuiet.countDeadline) := by
  have hquiet : s.countQuiet.countDeadline.qrem = 0 := sub_eq_zero.2 hq
  simp only [exec, execTick, hs, tickCollecting, if_pos hquiet]

/-- The deadline's last TICK in COLLECTING does what the policy says (R130). -/
theorem exec_tick_of_deadline_last (hs : s.rxState = .collecting) (hq : s.qrem ≠ 1) (ho : s.orem = 1) :
    exec .tick s = .next (deadlineWhileCollecting s.countQuiet.countDeadline) := by
  have hquiet : s.countQuiet.countDeadline.qrem ≠ 0 := sub_ne_zero.2 hq
  have hlast : s.countQuiet.countDeadline.orem = 0 := sub_eq_zero.2 ho
  simp only [exec, execTick, hs, tickCollecting, if_neg hquiet, if_pos hlast]

theorem deadlineWhileCollecting_of_fail (h : s.cfg.policy = .fail) :
    deadlineWhileCollecting s = s.endReceive (.blank .timeout) := by
  simp only [deadlineWhileCollecting, h]

theorem deadlineWhileCollecting_of_finalize (h : s.cfg.policy = .finalize) :
    deadlineWhileCollecting s = finalize s := by
  simp only [deadlineWhileCollecting, h]

/-- A timer that is not 0 counts down by one (R123). -/
theorem toNat_sub_one_add_one {v : Ticks} (h : v ≠ 0) : (v - 1).toNat + 1 = v.toNat := by bv_omega

/-- Settles O23. -/
theorem tickWhileOffChangesNothing : Obligations.TickWhileOffChangesNothing := fun _ hs => exec_tick_of_off hs

/-- Settles O24: OREM reaches 0 exactly when it was 1. -/
theorem tickInIdleCountsDeadline : Obligations.TickInIdleCountsDeadline := by
  intro s hs ho
  have hcount : (s.orem - 1).toNat + 1 = s.orem.toNat := toNat_sub_one_add_one ho
  have hlast : s.orem = 1 ↔ s.orem.toNat = 1 := BitVec.toNat_inj.symm
  by_cases h1 : s.orem = 1
  · exact ⟨_, exec_tick_of_idle_last hs h1, hcount, fun _ => ⟨rfl, rfl, rfl⟩, fun hne => absurd (hlast.1 h1) hne,
      rfl, rfl, rfl, rfl, rfl, rfl, ⟨rfl, rfl, rfl⟩, rfl, ⟨rfl, rfl, rfl⟩⟩
  · exact ⟨_, exec_tick_of_idle hs h1, hcount, fun heq => absurd (hlast.2 heq) h1, fun _ => ⟨hs, rfl⟩,
      rfl, rfl, rfl, rfl, rfl, rfl, ⟨rfl, rfl, rfl⟩, rfl, ⟨rfl, rfl, rfl⟩⟩

/-- Settles O25: neither timer wraps, and neither reaches 0. -/
theorem tickInCollectingCountsBoth : Obligations.TickInCollectingCountsBoth := by
  intro s hs hq ho
  have hquiet : (s.qrem - 1).toNat + 1 = s.qrem.toNat := toNat_sub_one_add_one (by bv_omega)
  have hdeadline : (s.orem - 1).toNat + 1 = s.orem.toNat := toNat_sub_one_add_one (by bv_omega)
  exact ⟨_, exec_tick_of_collecting hs (by bv_omega) (by bv_omega), hquiet, hdeadline, hs,
    rfl, rfl, rfl, rfl, rfl, rfl, ⟨rfl, rfl, rfl⟩, rfl, ⟨rfl, rfl, rfl⟩⟩

/-- Settles O27: the quiet period goes on, so the policy decides. -/
theorem tickTimesOut : Obligations.TickTimesOut := by
  intro s hs hq ho hfail
  have hexec := exec_tick_of_deadline_last hs (by bv_omega) ho
  rw [deadlineWhileCollecting_of_fail (by exact hfail)] at hexec
  have hquiet : (s.qrem - 1).toNat + 1 = s.qrem.toNat := toNat_sub_one_add_one (by bv_omega)
  refine ⟨_, hexec, rfl, rfl, rfl, sub_eq_zero.2 ho, hquiet, ?_⟩
  simp [sameSerializer_iff, sameSurroundings_iff]

end Sys2Proof.Machine
end

section
/-! What Finalize makes of the collected bytes (R127 to R129, R134). -/

namespace Sys2Proof.Machine

variable {s : State}

/-- The compatibility rule applies exactly when the first byte of RX_BUF is not the sentinel (R127). -/
theorem missesSentinel_iff : s.missesSentinel = true ↔ s.rxBuf.get 0 ≠ sentinel := by simp [State.missesSentinel]

theorem missesSentinel_eq_false_iff : s.missesSentinel = false ↔ s.rxBuf.get 0 = sentinel := by
  simp [State.missesSentinel]

/-- With the sentinel collected, the candidate is the collected bytes (R127). -/
theorem candidate_of_sentinel (h : s.rxBuf.get 0 = sentinel) : s.candidate = s.collected := by
  simp [State.candidate, missesSentinel_eq_false_iff.2 h]

/-- Without it, the sentinel is prepended (R127). -/
theorem candidate_of_no_sentinel (h : s.rxBuf.get 0 ≠ sentinel) : s.candidate = sentinel :: s.collected := by
  simp [State.candidate, missesSentinel_iff.2 h]

/-- After an overflow the result is SizeMismatch (R129). -/
theorem finalResult_of_overflow (h : s.rxOvf = true) : s.finalResult = .blank .sizeMismatch := by
  simp [State.finalResult, h]

/-- Without an overflow the candidate is decoded (R128). -/
theorem finalResult_of_no_overflow (h : s.rxOvf = false) : s.finalResult = recordOf (decodeFrame s.candidate) := by
  simp [State.finalResult, h]

/-- The TICK that finalizes a receive: the quiet period's last, or the deadline's last under policy Finalize (R126,
R130, R131). -/
theorem exec_tick_finalizes (hs : s.rxState = .collecting)
    (h : s.qrem = 1 ∨ (1 < s.qrem.toNat ∧ s.orem = 1 ∧ s.cfg.policy = .finalize)) :
    exec .tick s = .next (finalize s.countQuiet.countDeadline) := by
  rcases h with hq | ⟨hq, ho, hpolicy⟩
  · exact exec_tick_of_quiet_last hs hq
  · rw [exec_tick_of_deadline_last hs (by bv_omega) ho, deadlineWhileCollecting_of_finalize (by exact hpolicy)]

/-- Settles O26: the timers play no part in the candidate or the result of Finalize. -/
theorem tickFinalizes : Obligations.TickFinalizes := by
  intro s hs h
  refine ⟨_, exec_tick_finalizes hs h, ?_⟩
  have hsent : (0x3B : Byte) = sentinel := rfl
  have hkept : s.rxOvf = false → s.rxBuf.get 0 = sentinel →
      s.finalResult = recordOf (decodeFrame (s.rxBuf.take s.rxCnt.toNat)) := fun hovf hfirst => by
    rw [finalResult_of_no_overflow hovf, candidate_of_sentinel hfirst, State.collected]
  have hprepended : s.rxOvf = false → s.rxBuf.get 0 ≠ sentinel →
      s.finalResult = recordOf (decodeFrame (sentinel :: s.rxBuf.take s.rxCnt.toNat)) := fun hovf hfirst => by
    rw [finalResult_of_no_overflow hovf, candidate_of_no_sentinel hfirst, State.collected]
  simp +contextual [hsent, hkept, hprepended, missesSentinel_iff, missesSentinel_eq_false_iff, finalResult_of_overflow,
    sameSerializer_iff, sameSurroundings_iff]

/-- The candidate's length: the bytes RX_BUF holds, and the prepended sentinel (R127). -/
theorem length_candidate (s : State) :
    s.candidate.length = min s.rxCnt.toNat 258 + if s.missesSentinel then 1 else 0 := by
  have hcollected : s.collected.length = min s.rxCnt.toNat 258 := Buffer.length_take s.rxBuf _
  unfold State.candidate
  split <;> simp [hcollected]

/-- Settles O28: the unbounded buffer is longer than any length field allows, and begins with the sentinel. -/
theorem overflowMatchesUnboundedBuffer : Obligations.OverflowMatchesUnboundedBuffer := by
  intro s more hcnt hmore
  have hlong : 258 < (s.candidate ++ more).length := by
    have hpos := List.length_pos_of_ne_nil hmore
    rw [List.length_append, length_candidate, hcnt]
    omega
  have hfirst : byteAt (s.candidate ++ more) 0 = sentinel := by
    rw [byteAt_append_left _ _ (by rw [length_candidate, hcnt]; omega)]
    exact byteAt_candidate_zero (by rintro hzero; simp [hzero] at hcnt)
  have hdecode : decodeFrame (s.candidate ++ more) = .error .sizeMismatch := by
    rw [decodeFrame_of_length_ne (by omega) (by omega), if_pos hfirst]
  refine ⟨hdecode, fun hovf => ?_⟩
  rw [finalize_rxRes, finalResult_of_overflow hovf, hdecode]
  exact ⟨rfl, rfl⟩

/-- A decode reports TooShort exactly for fewer than six bytes (R95). -/
theorem recordOf_decodeFrame_tooShort_iff (b : List Byte) :
    (recordOf (decodeFrame b)).status = .tooShort ↔ b.length < 6 := by
  rcases decodeFrame_cases b with ⟨hd, hlen⟩ | ⟨hd, hlen, -⟩ | ⟨hd, hlen, -⟩ | ⟨hd, hlen, -⟩ | ⟨f, hd⟩
  · simp [hd, hlen, FrameError.status]
  · simp [hd, hlen, FrameError.status]
  · simp [hd, hlen, FrameError.status]
  · simp [hd, hlen, FrameError.status]
  · obtain ⟨hlen, -⟩ := decodeFrame_frame hd
    simp [hd, hlen]

/-- Finalize reports TooShort exactly for a candidate of fewer than six bytes, without an overflow (R134). -/
theorem finalResult_tooShort_iff (s : State) : s.finalResult.status = .tooShort ↔
    s.rxOvf = false ∧ s.rxCnt.toNat + (if s.missesSentinel then 1 else 0) < 6 := by
  cases hovf : s.rxOvf with
  | true => simp [finalResult_of_overflow hovf]
  | false =>
    rw [finalResult_of_no_overflow hovf, recordOf_decodeFrame_tooShort_iff, length_candidate]
    simp only [true_and]
    omega

/-- Finalize never reports BadHeader, not even where no byte was collected, which no run reaches (R134). -/
theorem finalResult_status_ne_badHeader (s : State) : s.finalResult.status ≠ .badHeader := by
  by_cases hcnt : s.rxCnt = 0
  · cases hovf : s.rxOvf with
    | true => simp [finalResult_of_overflow hovf]
    | false =>
      have hshort : s.finalResult.status = .tooShort :=
        (finalResult_tooShort_iff s).2 ⟨hovf, by rw [hcnt]; split <;> decide⟩
      simp [hshort]
  · rcases finalResult_status hcnt with h | h | h | h <;> simp [h]

/-- Settles O29: a receive ends with NoData, with a Timeout, or with what Finalize reports. -/
theorem receiveErrorsFromCandidate : Obligations.ReceiveErrorsFromCandidate := by
  intro s t hon h hoff
  refine and_left_comm.1 ⟨byteAt_candidate_zero, ?_⟩
  rcases execTick_next h with ⟨hs, -⟩ | ⟨-, -, rfl⟩ | ⟨hs, -, rfl⟩ | ⟨-, -, -, rfl⟩ | ⟨-, -, rfl⟩ | ⟨-, -, -, -, rfl⟩
  · exact absurd hs hon
  · exact absurd hoff hon
  · exact ⟨by simp, fun hcollecting => by simp [hs] at hcollecting⟩
  · exact absurd hoff hon
  · cases hprep : s.missesSentinel <;> simp [hprep, finalResult_status_ne_badHeader, finalResult_tooShort_iff]
  · exact ⟨by simp, fun _ htimeout => absurd rfl htimeout⟩

end Sys2Proof.Machine
end

section
/-! Runs of ticks (R124 to R126, R132): what a wait does to a receive in which no byte comes. -/

namespace Sys2Proof.Machine

/-- `OREM` counted down `k` times (R123). -/
def State.countDeadlineBy (s : State) (k : Nat) : State := { s with orem := s.orem - BitVec.ofNat 16 k }

/-- `QREM` counted down `k` times (R123). -/
def State.countQuietBy (s : State) (k : Nat) : State := { s with qrem := s.qrem - BitVec.ofNat 16 k }

/-- Counting down `k + 1` times is counting down once, then `k` times. -/
theorem sub_one_sub_ofNat (v : Ticks) (k : Nat) : v - 1 - BitVec.ofNat 16 k = v - BitVec.ofNat 16 (k + 1) := by
  rw [BitVec.ofNat_add, sub_sub, add_comm]
  rfl

@[simp] theorem State.countDeadlineBy_zero (s : State) : s.countDeadlineBy 0 = s := by
  simp [State.countDeadlineBy]

@[simp] theorem State.countQuietBy_zero (s : State) : s.countQuietBy 0 = s := by
  simp [State.countQuietBy]

section countBy

variable (s : State) (k : Nat)

@[simp] theorem State.countDeadlineBy_cfg : (s.countDeadlineBy k).cfg = s.cfg := rfl
@[simp] theorem State.countDeadlineBy_rxState : (s.countDeadlineBy k).rxState = s.rxState := rfl
@[simp] theorem State.countDeadlineBy_rxCnt : (s.countDeadlineBy k).rxCnt = s.rxCnt := rfl
@[simp] theorem State.countDeadlineBy_rxOvf : (s.countDeadlineBy k).rxOvf = s.rxOvf := rfl
@[simp] theorem State.countDeadlineBy_qrem : (s.countDeadlineBy k).qrem = s.qrem := rfl
@[simp] theorem State.countDeadlineBy_orem : (s.countDeadlineBy k).orem = s.orem - BitVec.ofNat 16 k := rfl
@[simp] theorem State.countDeadlineBy_transport : (s.countDeadlineBy k).transport = s.transport := rfl
@[simp] theorem State.countDeadlineBy_collected : (s.countDeadlineBy k).collected = s.collected := rfl
@[simp] theorem State.countDeadlineBy_finalResult : (s.countDeadlineBy k).finalResult = s.finalResult := rfl
@[simp] theorem State.countDeadlineBy_missesSentinel : (s.countDeadlineBy k).missesSentinel = s.missesSentinel := rfl
@[simp] theorem State.countQuietBy_cfg : (s.countQuietBy k).cfg = s.cfg := rfl
@[simp] theorem State.countQuietBy_rxState : (s.countQuietBy k).rxState = s.rxState := rfl
@[simp] theorem State.countQuietBy_rxCnt : (s.countQuietBy k).rxCnt = s.rxCnt := rfl
@[simp] theorem State.countQuietBy_rxOvf : (s.countQuietBy k).rxOvf = s.rxOvf := rfl
@[simp] theorem State.countQuietBy_qrem : (s.countQuietBy k).qrem = s.qrem - BitVec.ofNat 16 k := rfl
@[simp] theorem State.countQuietBy_orem : (s.countQuietBy k).orem = s.orem := rfl
@[simp] theorem State.countQuietBy_transport : (s.countQuietBy k).transport = s.transport := rfl
@[simp] theorem State.countQuietBy_collected : (s.countQuietBy k).collected = s.collected := rfl
@[simp] theorem State.countQuietBy_finalResult : (s.countQuietBy k).finalResult = s.finalResult := rfl
@[simp] theorem State.countQuietBy_missesSentinel : (s.countQuietBy k).missesSentinel = s.missesSentinel := rfl

end countBy

theorem State.countDeadlineBy_succ (s : State) (k : Nat) :
    s.countDeadline.countDeadlineBy k = s.countDeadlineBy (k + 1) := by
  simp only [State.countDeadlineBy, State.countDeadline, sub_one_sub_ofNat]

theorem State.countQuietBy_succ (s : State) (k : Nat) : s.countQuiet.countQuietBy k = s.countQuietBy (k + 1) := by
  simp only [State.countQuietBy, State.countQuiet, sub_one_sub_ofNat]

/-- A timer counted down at most to 0 has gone down by the number of ticks. -/
theorem toNat_sub_ofNat_add {v : Ticks} {k : Nat} (h : k ≤ v.toNat) : (v - BitVec.ofNat 16 k).toNat + k = v.toNat := by
  bv_omega

/-- A wait is a first TICK and the rest of the wait (R80). -/
theorem execAll_wait_succ {s t : State} (h : exec .tick s = .next t) (k : Nat) :
    execAll (wait (k + 1)) s = execAll (wait k) t :=
  execAll_cons_of_exec h (wait k)

/-- A wait is a shorter wait and a last TICK (R80). -/
theorem execAll_wait_succ_last {s t : State} {k : Nat} (h : execAll (wait k) s = .next t) :
    execAll (wait (k + 1)) s = execAll [.tick] t := by
  rw [wait, List.replicate_succ', ← wait, execAll_append_of_execAll h]

/-- A run of one operation. -/
theorem execAll_singleton (i : Instr) (s : State) : execAll [i] s = exec i s := by
  rw [execAll]
  cases exec i s <;> rfl

/-- A wait while OFF changes nothing (R124). -/
theorem execAll_wait_of_off {s : State} (hs : s.rxState = .off) (k : Nat) : execAll (wait k) s = .next s := by
  induction k with
  | zero => rfl
  | succ k ih => rw [execAll_wait_succ (exec_tick_of_off hs), ih]

/-- A wait in IDLE that ends before the deadline counts it down (R125). -/
theorem execAll_wait_of_idle {s : State} {k : Nat} (hs : s.rxState = .idle) (ho : k < s.orem.toNat) :
    execAll (wait k) s = .next (s.countDeadlineBy k) := by
  induction k generalizing s with
  | zero => rw [State.countDeadlineBy_zero]; rfl
  | succ k ih =>
    have hcount : s.countDeadline.orem.toNat + 1 = s.orem.toNat := toNat_sub_one_add_one (by bv_omega)
    rw [execAll_wait_succ (exec_tick_of_idle hs (by bv_omega)), ih (s := s.countDeadline) hs (by omega),
      State.countDeadlineBy_succ]

/-- A wait in IDLE up to the deadline ends the receive (R125). -/
theorem execAll_wait_of_idle_deadline {s : State} (hs : s.rxState = .idle) (ho : s.orem ≠ 0) :
    ∃ t, execAll (wait s.orem.toNat) s = .next t ∧ t.rxState = .off ∧ t.rxRes = .blank .noData ∧ t.orem = 0 := by
  obtain ⟨m, hm⟩ : ∃ m, s.orem.toNat = m + 1 := Nat.exists_eq_succ_of_ne_zero (by bv_omega)
  have hlast : (s.countDeadlineBy m).orem = 1 := by
    have hcount := toNat_sub_ofNat_add (v := s.orem) (k := m) (by omega)
    rw [State.countDeadlineBy_orem]
    bv_omega
  rw [hm, execAll_wait_succ_last (execAll_wait_of_idle hs (by omega)), execAll_singleton,
    exec_tick_of_idle_last (s := s.countDeadlineBy m) hs hlast]
  exact ⟨_, rfl, rfl, rfl, sub_eq_zero.2 hlast⟩

/-- A wait in COLLECTING that ends before both timers counts both down (R126). -/
theorem execAll_wait_of_collecting {s : State} {k : Nat} (hs : s.rxState = .collecting) (hq : k < s.qrem.toNat)
    (ho : k < s.orem.toNat) : execAll (wait k) s = .next ((s.countQuietBy k).countDeadlineBy k) := by
  induction k generalizing s with
  | zero => simp [wait, execAll]
  | succ k ih =>
    have hquiet : s.countQuiet.countDeadline.qrem.toNat + 1 = s.qrem.toNat := toNat_sub_one_add_one (by bv_omega)
    have hdeadline : s.countQuiet.countDeadline.orem.toNat + 1 = s.orem.toNat :=
      toNat_sub_one_add_one (v := s.orem) (by bv_omega)
    rw [execAll_wait_succ (exec_tick_of_collecting hs (by bv_omega) (by bv_omega)),
      ih (s := s.countQuiet.countDeadline) hs (by omega) (by omega), ← State.countQuietBy_succ,
      ← State.countDeadlineBy_succ]
    rfl

/-- A wait in COLLECTING up to the end of the quiet period, the deadline not before it, finalizes (R126, R131). -/
theorem execAll_wait_of_collecting_quiet {s : State} (hs : s.rxState = .collecting) (hq : s.qrem ≠ 0)
    (ho : s.qrem.toNat ≤ s.orem.toNat) :
    ∃ t, execAll (wait s.qrem.toNat) s = .next t ∧ t.rxState = .off ∧ t.rxRes = s.finalResult ∧
      t.rxPrep = s.missesSentinel ∧ t.rxCnt = s.rxCnt ∧ t.orem.toNat + s.qrem.toNat = s.orem.toNat := by
  obtain ⟨m, hm⟩ : ∃ m, s.qrem.toNat = m + 1 := Nat.exists_eq_succ_of_ne_zero (by bv_omega)
  have hlast : ((s.countQuietBy m).countDeadlineBy m).qrem = 1 := by
    have hcount := toNat_sub_ofNat_add (v := s.qrem) (k := m) (by omega)
    rw [State.countDeadlineBy_qrem, State.countQuietBy_qrem]
    bv_omega
  rw [hm, execAll_wait_succ_last (execAll_wait_of_collecting hs (by omega) (by omega)), execAll_singleton,
    exec_tick_of_quiet_last (s := (s.countQuietBy m).countDeadlineBy m) hs hlast]
  have hcount := toNat_sub_ofNat_add (v := s.orem) (k := m) (by omega)
  refine ⟨_, rfl, rfl, by simp, by simp, by simp, ?_⟩
  simp only [finalize_orem, State.countDeadline_orem, State.countQuiet_orem, State.countDeadlineBy_orem,
    State.countQuietBy_orem]
  bv_omega

/-- A longer wait goes on from where the shorter one ends (R80). -/
theorem execAll_wait_add {s t : State} {j : Nat} (h : execAll (wait j) s = .next t) (k : Nat) :
    execAll (wait (j + k)) s = execAll (wait k) t := by
  rw [wait, List.replicate_add, ← wait, ← wait, execAll_append_of_execAll h]

/-- Settles O31: the wait in IDLE after RX_ARM ends before the deadline, or at it. -/
theorem noDataExactlyAtDeadline : Obligations.NoDataExactlyAtDeadline := by
  intro T s k hT hoff hk
  rw [execAll_cons_of_exec (exec_rxArm_of_off hT hoff)]
  rcases Nat.lt_or_eq_of_le hk with hlt | rfl
  · exact ⟨_, execAll_wait_of_idle rfl hlt, toNat_sub_ofNat_add hk, fun _ => ⟨rfl, rfl⟩,
      fun heq => absurd heq (Nat.ne_of_lt hlt)⟩
  · obtain ⟨t, hrun, ht, hres, horem⟩ :=
      execAll_wait_of_idle_deadline (s := (s.setCmdStatus .ok).startReceive T) rfl hT
    have hdone : t.rxDone = true := (rxDone_iff t).2 ⟨ht, by rw [hres]; decide⟩
    exact ⟨t, hrun, by rw [horem]; simp, fun hlt => absurd rfl (Nat.ne_of_lt hlt), fun _ => ⟨hdone, hres⟩⟩

/-- Settles O32: a wait below the quiet period counts both timers down, one of its length finalizes, and the rest of a
longer one is spent in OFF. -/
theorem quietGapLaw : Obligations.QuietGapLaw := by
  intro s k hs hq hlegal
  rw [← hq] at hlegal ⊢
  refine ⟨fun hk ho => ?_, fun hk ho => ?_⟩
  · exact ⟨_, execAll_wait_of_collecting hs hk ho, hs, rfl, rfl, toNat_sub_ofNat_add (Nat.le_of_lt ho)⟩
  · obtain ⟨t, hrun, hoff, hres, -, hcnt, horem⟩ := execAll_wait_of_collecting_quiet hs hlegal ho
    obtain ⟨j, rfl⟩ := Nat.exists_eq_add_of_le hk
    exact ⟨t, by rw [execAll_wait_add hrun, execAll_wait_of_off hoff], hoff, hres, hcnt, horem⟩

end Sys2Proof.Machine
end

section
/-! The deadline of a receive, whatever bytes come (R133, R140). -/

namespace Sys2Proof.Machine

/-- What a TICK does to a receive that goes on: it counts the deadline, which is not at its last tick (R125, R126). -/
theorem exec_tick_receiving {s t : State} (h : exec .tick s = .next t) (hon : t.rxState ≠ .off) :
    s.rxState ≠ .off ∧ t.orem = s.orem - 1 ∧ t.orem ≠ 0 := by
  rcases execTick_next h with ⟨hs, rfl⟩ | ⟨hs, ho, rfl⟩ | ⟨-, -, rfl⟩ | ⟨hs, -, ho, rfl⟩ | ⟨-, -, rfl⟩ |
    ⟨-, -, -, -, rfl⟩
  · exact absurd hs hon
  · exact ⟨by simp [hs], rfl, ho⟩
  · exact absurd rfl hon
  · exact ⟨by simp [hs], rfl, ho⟩
  · exact absurd rfl hon
  · exact absurd rfl hon

@[simp] theorem tickCount_cons_tick (ops : List Instr) : tickCount (.tick :: ops) = tickCount ops + 1 := by
  simp [tickCount]

@[simp] theorem tickCount_cons_rxByte (b : Byte) (ops : List Instr) : tickCount (.rxByte b :: ops) = tickCount ops := by
  simp [tickCount]

/-- A receive that events leave in progress was in progress before them, and each TICK among them has counted its
deadline (R115, R124 to R126, R133). -/
theorem execAll_receiving {ops : List Instr} {s t : State} (hops : ∀ i ∈ ops, isReceiveEvent i = true)
    (h : execAll ops s = .next t) (hon : t.rxState ≠ .off) :
    s.rxState ≠ .off ∧ (s.orem ≠ 0 → t.orem ≠ 0 ∧ t.orem.toNat + tickCount ops = s.orem.toNat) := by
  induction ops generalizing s with
  | nil =>
    cases h
    exact ⟨hon, fun ho => ⟨ho, rfl⟩⟩
  | cons i ops ih =>
    obtain ⟨u, hi, hrest⟩ := execAll_cons_next h
    obtain ⟨hu, hcount⟩ := ih (fun j hj => hops j (List.mem_cons_of_mem i hj)) hrest
    have hevent : isReceiveEvent i = true := hops i List.mem_cons_self
    cases i with
    | rxByte b =>
      obtain ⟨-, horem, -, -, -⟩ := exec_rxByte_next hi
      have hs : s.rxState ≠ .off := fun hoff => by simp [exec_rxByte_of_off hoff] at hi
      rw [horem] at hcount
      exact ⟨hs, by simpa using hcount⟩
    | tick =>
      obtain ⟨hs, horem, hne⟩ := exec_tick_receiving hi hu
      refine ⟨hs, fun ho => ?_⟩
      obtain ⟨hleft, hsum⟩ := hcount hne
      have hpred : u.orem.toNat + 1 = s.orem.toNat := by rw [horem]; exact toNat_sub_one_add_one ho
      refine ⟨hleft, ?_⟩
      rw [tickCount_cons_tick]
      omega
    | nop | encode | decode | rxArm | reset | reservedCmd | reservedEvent => cases hevent

/-- Settles O33: RX_ARM sets OREM to T, and a receive in progress has OREM above 0. -/
theorem receiveEndsWithinDeadline : Obligations.ReceiveEndsWithinDeadline := by
  intro T ops s t hoff hT hops h hon
  rw [execAll_cons_of_exec (exec_rxArm_of_off hT hoff)] at h
  obtain ⟨-, hcount⟩ := execAll_receiving hops h hon
  obtain ⟨hleft, hsum⟩ := hcount hT
  rw [State.startReceive_orem] at hsum
  exact ⟨by bv_omega, hsum⟩

end Sys2Proof.Machine
end

section
/-! A frame whose bytes come at a distance is received whole (R127, R132, R133). -/

namespace Sys2Proof.Machine

/-- A receive just after it took the last of `bytes`, all of which it holds, with nothing waiting in the transport. -/
structure State.HasTaken (s : State) (bytes : List Byte) : Prop where
  collecting : s.rxState = .collecting
  count      : s.rxCnt.toNat = bytes.length
  collected  : s.collected = bytes
  room       : s.rxOvf = false
  quiet      : s.qrem = s.cfg.qTicks
  transport  : s.transport = []

/-- The first byte of a receive, arriving at an empty transport (R117). -/
theorem exec_rxByte_hasTaken {s : State} (hs : s.rxState = .idle) (hovf : s.rxOvf = false) (htr : s.transport = [])
    (b : Byte) : ∃ t, exec (.rxByte b) s = .next t ∧ t.HasTaken [b] ∧ t.orem = s.orem ∧ t.cfg = s.cfg := by
  have hexec := exec_rxByte_of_idle (b := b) hs (.inl htr)
  have hbytes := collected_collectFirst b (s.setTransport s.transport.tail)
  exact ⟨_, hexec, ⟨rfl, rfl, hbytes, by simp [collectFirst, hovf], rfl, by simp [collectFirst, htr]⟩,
    by simp [collectFirst], by simp [collectFirst]⟩

/-- After a wait in IDLE the first byte of a receive opens it (R117). -/
theorem execAll_wait_first_byte {s : State} {k : Nat} (hs : s.rxState = .idle) (hovf : s.rxOvf = false)
    (htr : s.transport = []) (hk : k < s.orem.toNat) (b : Byte) :
    ∃ t, execAll (wait k ++ [.rxByte b]) s = .next t ∧ t.HasTaken [b] ∧ t.orem.toNat + k = s.orem.toNat ∧
      t.cfg = s.cfg := by
  obtain ⟨t, hexec, ht, horem, hcfg⟩ := exec_rxByte_hasTaken (s := s.countDeadlineBy k) hs hovf htr b
  refine ⟨t, ?_, ht, ?_, hcfg⟩
  · rw [execAll_append_of_execAll (execAll_wait_of_idle hs hk), execAll_singleton, hexec]
  · rw [horem, State.countDeadlineBy_orem, toNat_sub_ofNat_add (Nat.le_of_lt hk)]

/-- After a wait below the quiet period and before the deadline a further byte joins those taken (R118, R132). -/
theorem State.HasTaken.execAll_wait_byte {s : State} {bytes : List Byte} {k : Nat} (h : s.HasTaken bytes)
    (hk : k < s.cfg.qTicks.toNat) (ho : k < s.orem.toNat) (hlen : bytes.length < 258) (b : Byte) :
    ∃ t, execAll (wait k ++ [.rxByte b]) s = .next t ∧ t.HasTaken (bytes ++ [b]) ∧
      t.orem.toNat + k = s.orem.toNat ∧ t.cfg = s.cfg := by
  have hcnt : s.rxCnt.toNat < 258 := h.count.trans_lt hlen
  obtain ⟨t, hexec, hs, hcount, hquiet, -, -, hbytes, horem, hovf, -, -, -, -, -, hcfg, -, htr⟩ :=
    furtherByteAppends b ((s.countQuietBy k).countDeadlineBy k) h.collecting hcnt (.inl h.transport)
  simp only [State.countDeadlineBy_cfg, State.countDeadlineBy_orem, State.countDeadlineBy_rxCnt,
    State.countDeadlineBy_rxOvf, State.countDeadlineBy_collected, State.countDeadlineBy_transport,
    State.countQuietBy_cfg, State.countQuietBy_orem, State.countQuietBy_rxCnt, State.countQuietBy_rxOvf,
    State.countQuietBy_collected, State.countQuietBy_transport] at hcount hquiet hbytes horem hovf hcfg htr
  refine ⟨t, ?_, ⟨hs, ?_, ?_, hovf.trans h.room, ?_, ?_⟩, ?_, hcfg⟩
  · rw [execAll_append_of_execAll (execAll_wait_of_collecting h.collecting (h.quiet ▸ hk) ho), execAll_singleton,
      hexec]
  · rw [hcount, h.count, List.length_append]
    rfl
  · rw [hbytes, h.collected]
  · rw [hquiet, hcfg]
  · rw [htr, h.transport]
    rfl
  · rw [horem, toNat_sub_ofNat_add (Nat.le_of_lt ho)]

@[simp] theorem paced_cons (x : Nat × Byte) (schedule : List (Nat × Byte)) :
    paced (x :: schedule) = (wait x.1 ++ [.rxByte x.2]) ++ paced schedule := by
  simp [paced]

@[simp] theorem scheduleTime_cons (x : Nat × Byte) (schedule : List (Nat × Byte)) :
    scheduleTime (x :: schedule) = x.1 + scheduleTime schedule := by
  simp [scheduleTime]

/-- Bytes that come with gaps below the quiet period, all before the deadline, join those taken (R132). -/
theorem State.HasTaken.execAll_paced {s : State} {bytes : List Byte} {schedule : List (Nat × Byte)}
    (h : s.HasTaken bytes) (hgaps : ∀ x ∈ schedule, x.1 < s.cfg.qTicks.toNat)
    (htime : scheduleTime schedule < s.orem.toNat) (hlen : bytes.length + schedule.length ≤ 258) :
    ∃ t, execAll (paced schedule) s = .next t ∧ t.HasTaken (bytes ++ schedule.map Prod.snd) ∧
      t.orem.toNat + scheduleTime schedule = s.orem.toNat ∧ t.cfg = s.cfg := by
  induction schedule generalizing s bytes with
  | nil => exact ⟨s, rfl, by simpa using h, rfl, rfl⟩
  | cons x schedule ih =>
    rw [scheduleTime_cons] at htime
    rw [List.length_cons] at hlen
    obtain ⟨u, hrun, hu, horem, hcfg⟩ :=
      h.execAll_wait_byte (hgaps x List.mem_cons_self) (by omega) (by omega) x.2
    obtain ⟨t, hrest, ht, horem', hcfg'⟩ := ih hu
      (fun y hy => hcfg ▸ hgaps y (List.mem_cons_of_mem x hy)) (by omega) (by simp; omega)
    refine ⟨t, ?_, ?_, ?_, hcfg'.trans hcfg⟩
    · rw [paced_cons, execAll_append_of_execAll hrun, hrest]
    · simpa using ht
    · rw [scheduleTime_cons]
      omega

/-- A quiet period before the deadline, after the last byte, finalizes what was taken (R126, R132). -/
theorem State.HasTaken.execAll_wait_quiet {s : State} {bytes : List Byte} (h : s.HasTaken bytes)
    (hlegal : s.cfg.qTicks ≠ 0) (ho : s.cfg.qTicks.toNat ≤ s.orem.toNat) :
    ∃ t, execAll (wait s.cfg.qTicks.toNat) s = .next t ∧ t.rxState = .off ∧ t.rxRes = s.finalResult ∧
      t.rxPrep = s.missesSentinel ∧ t.orem.toNat + s.cfg.qTicks.toNat = s.orem.toNat := by
  rw [← h.quiet] at hlegal ho ⊢
  obtain ⟨t, hrun, hoff, hres, hprep, -, horem⟩ := execAll_wait_of_collecting_quiet h.collecting hlegal ho
  exact ⟨t, hrun, hoff, hres, hprep, horem⟩

/-- A receive over bytes that come at a distance: all of them are taken, and the quiet period after the last one, before
the deadline, finalizes them (R132, R133). -/
theorem execAll_paced_receive {T : Ticks} {s : State} {schedule : List (Nat × Byte)} (hoff : s.rxState = .off)
    (htr : s.transport = []) (hlegal : s.cfg.qTicks ≠ 0) (hne : schedule ≠ []) (hlen : schedule.length ≤ 258)
    (hgaps : ∀ x ∈ schedule.tail, x.1 < s.cfg.qTicks.toNat)
    (htime : scheduleTime schedule + s.cfg.qTicks.toNat ≤ T.toNat) :
    ∃ u t : State, u.HasTaken (schedule.map Prod.snd) ∧
      execAll (.rxArm T :: paced schedule ++ wait s.cfg.qTicks.toNat) s = .next t ∧ t.rxState = .off ∧
      t.rxRes = u.finalResult ∧ t.rxPrep = u.missesSentinel ∧
      t.orem.toNat + scheduleTime schedule + s.cfg.qTicks.toNat = T.toNat := by
  obtain ⟨x, rest, rfl⟩ := List.exists_cons_of_ne_nil hne
  rw [scheduleTime_cons] at htime
  rw [List.length_cons] at hlen
  have hpos : 0 < s.cfg.qTicks.toNat := by bv_omega
  have hT : T ≠ 0 := by bv_omega
  have harmed : ((s.setCmdStatus .ok).startReceive T).orem = T := rfl
  obtain ⟨v, hfirst, hv, horem, hcfg⟩ := execAll_wait_first_byte (s := (s.setCmdStatus .ok).startReceive T) (k := x.1)
    rfl rfl htr (by rw [harmed]; omega) x.2
  rw [harmed] at horem
  replace hcfg : v.cfg = s.cfg := hcfg
  obtain ⟨u, hrest, hu, horem', hcfg'⟩ := hv.execAll_paced (schedule := rest)
    (fun y hy => hcfg ▸ hgaps y hy) (by omega) (by simp; omega)
  have hquiet : u.cfg.qTicks = s.cfg.qTicks := by rw [hcfg', hcfg]
  obtain ⟨t, hlast, ht, hres, hprep, horem''⟩ := hu.execAll_wait_quiet (hquiet ▸ hlegal) (by rw [hquiet]; omega)
  rw [hquiet] at hlast horem''
  refine ⟨u, t, hu, ?_, ht, hres, hprep, ?_⟩
  · rw [List.cons_append, execAll_cons_of_exec (exec_rxArm_of_off hT hoff), paced_cons, List.append_assoc,
      execAll_append_of_execAll hfirst, execAll_append_of_execAll hrest, hlast]
  · rw [scheduleTime_cons]
    omega

/-- The first collected byte is the one the compatibility rule looks at (R127). -/
theorem State.HasTaken.get_zero {s : State} {b : Byte} {bytes : List Byte} (h : s.HasTaken (b :: bytes)) :
    s.rxBuf.get 0 = b := by
  have hcnt : 0 < s.rxCnt.toNat := by simp [h.count]
  have hfirst : byteAt s.collected 0 = b := by rw [h.collected, byteAt_cons_zero]
  rw [← hfirst]
  simp [State.collected, byteAt, Buffer.take, Buffer.get, List.getD_eq_getElem?_getD, hcnt]

/-- Bytes that begin with the sentinel are the candidate as they are (R127, R128). -/
theorem State.HasTaken.finalResult_of_sentinel {s : State} {bytes : List Byte} (h : s.HasTaken (sentinel :: bytes)) :
    s.missesSentinel = false ∧ s.finalResult = recordOf (decodeFrame (sentinel :: bytes)) :=
  ⟨missesSentinel_eq_false_iff.2 h.get_zero, by
    rw [finalResult_of_no_overflow h.room, candidate_of_sentinel h.get_zero, h.collected]⟩

/-- Bytes that do not begin with the sentinel get it prepended (R127, R128). -/
theorem State.HasTaken.finalResult_of_no_sentinel {s : State} {b : Byte} {bytes : List Byte}
    (h : s.HasTaken (b :: bytes)) (hb : b ≠ sentinel) :
    s.missesSentinel = true ∧ s.finalResult = recordOf (decodeFrame (sentinel :: b :: bytes)) := by
  have hfirst : s.rxBuf.get 0 ≠ sentinel := by rwa [h.get_zero]
  exact ⟨missesSentinel_iff.2 hfirst, by
    rw [finalResult_of_no_overflow h.room, candidate_of_no_sentinel hfirst, h.collected]⟩

/-- The record of a frame ENCODE builds holds its operands (R101, R104). -/
theorem recordOf_decodeFrame_frameBytes (ss dd cc : Byte) {p : List Byte} (hp : p.length ≤ maxPayload)
    {r : ResultRecord} (hr : r = recordOf (decodeFrame (frameBytes ss dd cc p))) :
    r.status = .ok ∧ r.src = ss ∧ r.dst = dd ∧ r.cmd = cc ∧ r.plen.toNat = p.length ∧
      r.payload.take r.plen.toNat = p := by
  have hlen := toNat_lenfield hp
  have hplen : (lenfield p.length - 3).toNat = p.length := by bv_omega
  have htake : (Buffer.ofList 252 p).take p.length = p := Buffer.take_ofList hp
  rw [hr, decodeFrame_frameBytes ss dd cc hp]
  simp only [recordOf_frame_status, recordOf_frame_src, recordOf_frame_dst, recordOf_frame_cmd, recordOf_frame_plen,
    recordOf_frame_payload, hplen, htake, and_self]

/-- Settles O34: the bytes taken are the frame, which begins with the sentinel and decodes to its operands. -/
theorem pacedFrameIsReceived : Obligations.PacedFrameIsReceived := by
  intro T s ss dd cc p f schedule hoff htr hlegal hf hbytes hgaps htime
  obtain ⟨hp, rfl⟩ := encodeFrame_eq_some_iff.1 hf
  have hlen : schedule.length = p.length + 6 := by rw [← List.length_map, hbytes, length_frameBytes]
  obtain ⟨u, t, hu, hrun, ht, hres, hprep, horem⟩ := execAll_paced_receive hoff htr hlegal
    (List.ne_nil_of_length_pos (by omega)) (by simp only [maxPayload] at hp; omega) hgaps htime
  rw [hbytes] at hu
  obtain ⟨hkept, hresult⟩ := hu.finalResult_of_sentinel
  obtain ⟨hok, hsrc, hdst, hcmd, hplen, hpayload⟩ :=
    recordOf_decodeFrame_frameBytes ss dd cc hp (hres.trans hresult)
  have hdone : t.rxDone = true := (rxDone_iff t).2 ⟨ht, by rw [hok]; decide⟩
  exact ⟨t, hrun, hdone, hprep.trans hkept, hok, hsrc, hdst, hcmd, hplen, hpayload, horem⟩

/-- A frame's length field has the sentinel's value only for a payload of 56 bytes (R136). -/
theorem lenfield_ne_sentinel {n : Nat} (hn : n ≤ maxPayload) (h : n ≠ 56) : lenfield n ≠ sentinel := by
  intro heq
  have hlen := toNat_lenfield hn
  rw [heq] at hlen
  have hsent : sentinel.toNat = 59 := rfl
  omega

/-- Settles O35: the bytes taken begin with the frame's length field, and the sentinel prepended to them makes the
frame again. -/
theorem droppedSentinelIsRecovered : Obligations.DroppedSentinelIsRecovered := by
  intro T s ss dd cc p f schedule hoff htr hlegal hf h56 hbytes hgaps htime
  obtain ⟨hp, rfl⟩ := encodeFrame_eq_some_iff.1 hf
  have hlen : schedule.length = p.length + 5 := by
    rw [← List.length_map, hbytes, List.length_tail, length_frameBytes]
    rfl
  obtain ⟨u, t, hu, hrun, ht, hres, hprep, -⟩ := execAll_paced_receive hoff htr hlegal
    (List.ne_nil_of_length_pos (by omega)) (by simp only [maxPayload] at hp; omega) hgaps htime
  rw [hbytes] at hu
  obtain ⟨hmissed, hresult⟩ := hu.finalResult_of_no_sentinel (lenfield_ne_sentinel hp h56)
  obtain ⟨hok, hsrc, hdst, hcmd, hplen, hpayload⟩ :=
    recordOf_decodeFrame_frameBytes ss dd cc hp (hres.trans hresult)
  have hdone : t.rxDone = true := (rxDone_iff t).2 ⟨ht, by rw [hok]; decide⟩
  exact ⟨t, hrun, hdone, hprep.trans hmissed, hok, hsrc, hdst, hcmd, hplen, hpayload⟩

end Sys2Proof.Machine
end

section
/-! How the turns of host and block take a call through its attempts (R157 to R165). -/

namespace Sys2Proof.Machine

/-- What one turn may do to a call: leave it, take it to a later step of its attempt, or begin the next attempt at
step 1. -/
inductive HostCall.Advance (c : HostCall) : HostCall → Prop where
  | stay : c.Advance c
  | later {ph : HostPhase} (hrank : c.phase.rank < ph.rank) (hok : HostCall.Ok { c with phase := ph }) :
      c.Advance { c with phase := ph }
  | retry (hbegun : c.phase ≠ .flush) (hsend : c.blind = false) (hleft : c.attempt < retryCount) :
      c.Advance { c with attempt := c.attempt + 1, phase := .flush }

/-- A new phase keeps the bookkeeping when it is no early failure, and no phase that a commandBlind never has. -/
theorem HostCall.Ok.withPhase {c : HostCall} (h : c.Ok) {ph : HostPhase}
    (hfailed : ∀ n e, ph = .finished (.commandFailed n e) → n = retryCount ∧ c.blind = false)
    (hblindly : c.blind = true → ph ≠ .arm ∧ ph ≠ .await ∧ ∀ q, ph ≠ .finished (.response q)) :
    HostCall.Ok { c with phase := ph } :=
  { h with failed := hfailed, blindly := hblindly }

/-- A call that is armed or waits is no commandBlind (R164). -/
theorem HostCall.Ok.blind_eq_false {c : HostCall} (h : c.Ok) (hc : c.phase = .arm ∨ c.phase = .await) :
    c.blind = false := by
  refine Bool.eq_false_iff.2 fun hb => ?_
  obtain ⟨harm, hawait, -⟩ := h.blindly hb
  exact hc.elim harm hawait

/-- A failed attempt ends the call or begins the next one, and a sendCommand that ends has used its attempts (R157,
R163, R164). -/
theorem HostCall.advance_fail {c : HostCall} (h : c.Ok) (hbegun : c.phase ≠ .flush) (hrank : c.phase.rank < 5)
    (e : AttemptError) : c.Advance (c.fail e) := by
  rcases c.fail_cases e with ⟨-, heq⟩ | ⟨hsend, hleft, heq⟩ | ⟨hsend, hused, heq⟩ <;> rw [heq]
  · exact .later hrank (h.withPhase (by simp) (by simp))
  · exact .retry hbegun hsend hleft
  · have hall : c.attempt = retryCount := Nat.le_antisymm h.bound hused
    exact .later hrank (h.withPhase (by simp [hall, hsend]) (by simp))

/-- After ENCODE the call goes on to the write, or its attempt fails (R159). -/
theorem HostCall.advance_afterEncode {c : HostCall} (h : c.Ok) (hc : c.phase = .encode) (s : State) :
    c.Advance (c.afterEncode s) := by
  unfold HostCall.afterEncode
  split
  · exact .later (by simp [hc, HostPhase.rank]) (h.withPhase (by simp) (by simp))
  · exact advance_fail h (by simp [hc]) (by simp [hc, HostPhase.rank]) _

/-- After the write a commandBlind ends and a sendCommand goes on to step 3, or the attempt fails (R159, R164). -/
theorem HostCall.advance_afterWrite {c : HostCall} (h : c.Ok) (hc : c.phase = .write) (n : Nat) (s : State) :
    c.Advance (c.afterWrite n s) := by
  unfold HostCall.afterWrite
  split
  · exact advance_fail h (by simp [hc]) (by simp [hc, HostPhase.rank]) _
  · split
    · exact .later (by simp [hc, HostPhase.rank]) (h.withPhase (by simp) (by simp))
    · next hsend => exact .later (by simp [hc, HostPhase.rank]) (h.withPhase (by simp) (by simp [hsend]))

/-- Once RX_DONE is 1 the call returns the response, or its attempt fails (R160 to R162). -/
theorem HostCall.advance_afterReceive {c : HostCall} (h : c.Ok) (hc : c.phase = .await) (p : HostParams) (s : State) :
    c.Advance (c.afterReceive p s) := by
  have hfail : ∀ e, c.Advance (c.fail e) := advance_fail h (by simp [hc]) (by simp [hc, HostPhase.rank])
  unfold HostCall.afterReceive
  split
  · exact hfail _
  · split
    · have hsend := h.blind_eq_false (.inr hc)
      exact .later (by simp [hc, HostPhase.rank]) (h.withPhase (by simp) (by simp [hsend]))
    · exact hfail _

/-- Every turn advances the call, whoever moves (R166). -/
theorem systemTurn_advance {p : HostParams} {u : Turn} {c c' : HostCall} {s s' : State} (h : c.Ok)
    (hturn : systemTurn p u c s = .next (c', s')) : c.Advance c' := by
  rcases systemTurn_next hturn with rfl | ⟨hc, -, rfl⟩ | ⟨hc, rfl⟩ | ⟨hc, -, n, rfl⟩ | ⟨hc, rfl⟩ | ⟨hc, -, -, rfl⟩
  · exact .stay
  · exact .later (by simp [hc, HostPhase.rank]) (h.withPhase (by simp) (by simp))
  · exact HostCall.advance_afterEncode h hc s'
  · exact HostCall.advance_afterWrite h hc n s
  · have hsend := h.blind_eq_false (.inl hc)
    exact .later (by simp [hc, HostPhase.rank]) (h.withPhase (by simp) (by simp [hsend]))
  · exact HostCall.advance_afterReceive h hc p s

/-- A call that advances keeps its bookkeeping: the next attempt begins only while attempts are left. -/
theorem HostCall.Advance.ok {c c' : HostCall} (h : c.Advance c') (hc : c.Ok) : c'.Ok := by
  cases h with
  | stay => exact hc
  | later hrank hok => exact hok
  | retry hbegun hsend hleft => exact ⟨Nat.le_add_left 1 c.attempt, hleft, by simp, by simp⟩

/-- Step 1 comes first in an attempt, so no other phase is before it. -/
theorem HostPhase.ne_flush_of_rank_lt {a b : HostPhase} (h : a.rank < b.rank) : b ≠ .flush := by
  rintro rfl
  exact Nat.not_lt_zero _ h

/-- A call that advances counts an attempt exactly when it comes back to step 1, and else does no step twice. -/
theorem HostCall.Advance.counts {c c' : HostCall} (h : c.Advance c') :
    (c'.phase = .flush → c.phase ≠ .flush → c'.attempt = c.attempt + 1) ∧
    (c'.phase ≠ .flush ∨ c.phase = .flush → c'.attempt = c.attempt) ∧
    (c'.attempt = c.attempt → c' = c ∨ c.phase.rank < c'.phase.rank) := by
  cases h with
  | stay => exact ⟨fun hflush hne => absurd hflush hne, fun _ => rfl, fun _ => .inl rfl⟩
  | later hrank hok =>
    exact ⟨fun hflush _ => absurd hflush (HostPhase.ne_flush_of_rank_lt hrank), fun _ => rfl, fun _ => .inr hrank⟩
  | retry hbegun hsend hleft =>
    exact ⟨fun _ _ => rfl, fun hother => (hother.elim (absurd rfl) hbegun).elim,
      fun hsame => absurd hsame (Nat.succ_ne_self _)⟩

/-- Either call begins with its bookkeeping in order (R157, R164). -/
theorem HostCall.ok_of_begin (dst cmd : Byte) (payload : List Byte) :
    (HostCall.sendCommand dst cmd payload).Ok ∧ (HostCall.commandBlind dst cmd payload).Ok := by
  have hfirst : 1 ≤ retryCount := by decide
  exact ⟨⟨Nat.le_refl 1, hfirst, by simp [HostCall.sendCommand], by simp [HostCall.sendCommand]⟩,
    ⟨Nat.le_refl 1, hfirst, by simp [HostCall.commandBlind], by simp [HostCall.commandBlind]⟩⟩

/-- Settles O58: every turn is an advance of the call. -/
theorem hostAttemptsBounded : Obligations.HostAttemptsBounded := by
  refine ⟨HostCall.ok_of_begin, fun p u c c' s s' hc hturn => ?_⟩
  have hadvance := systemTurn_advance hc hturn
  exact ⟨hadvance.ok hc, hadvance.counts⟩

end Sys2Proof.Machine
end

section
/-! Which turn returns a response (R160 to R162). -/

namespace Sys2Proof.Machine

/-- The frame received answers the request in its command, source and destination (R161). -/
theorem HostCall.validates_iff (c : HostCall) (p : HostParams) (r : ResultRecord) :
    c.validates p r = true ↔ r.cmd = c.cmd ∧ r.src = c.dst ∧ r.dst = p.localAddr := by
  simp [HostCall.validates, and_assoc]

/-- A failed attempt returns no response (R163, R164). -/
theorem HostCall.fail_phase_ne_response (c : HostCall) (e : AttemptError) (q : List Byte) :
    (c.fail e).phase ≠ .finished (.response q) := by
  rcases c.fail_cases e with ⟨-, heq⟩ | ⟨-, -, heq⟩ | ⟨-, -, heq⟩ <;> simp [heq]

/-- ENCODE is not the step that returns a response (R159). -/
theorem HostCall.afterEncode_phase_ne_response (c : HostCall) (s : State) (q : List Byte) :
    (c.afterEncode s).phase ≠ .finished (.response q) := by
  unfold HostCall.afterEncode
  split
  · simp
  · exact c.fail_phase_ne_response _ q

/-- The write is not the step that returns a response (R159, R164). -/
theorem HostCall.afterWrite_phase_ne_response (c : HostCall) (n : Nat) (s : State) (q : List Byte) :
    (c.afterWrite n s).phase ≠ .finished (.response q) := by
  unfold HostCall.afterWrite
  split
  · exact c.fail_phase_ne_response _ q
  · split <;> simp

/-- The receive's end returns a response only for status OK and a frame that answers the request (R160 to R162). -/
theorem HostCall.afterReceive_response {c : HostCall} {p : HostParams} {s : State} {q : List Byte}
    (h : (c.afterReceive p s).phase = .finished (.response q)) :
    s.rxRes.status = .ok ∧ c.validates p s.rxRes = true ∧ q = s.rxRes.payload.take s.rxRes.plen.toNat := by
  unfold HostCall.afterReceive at h
  split at h
  · exact absurd h (c.fail_phase_ne_response _ q)
  · next hok =>
    split at h
    · next hvalid =>
      cases h
      exact ⟨not_not.1 hok, hvalid, rfl⟩
    · exact absurd h (c.fail_phase_ne_response _ q)

/-- Settles O59: of the turns that change a call, only the one that takes a receive's end can return a response. -/
theorem hostReturnsOnlyValidated : Obligations.HostReturnsOnlyValidated := by
  intro p u c c' s s' q hturn hrunning hresp
  rcases systemTurn_next hturn with rfl | ⟨-, -, rfl⟩ | ⟨-, rfl⟩ | ⟨-, -, n, rfl⟩ | ⟨-, rfl⟩ | ⟨-, hdone, hs, rfl⟩
  · simp [HostCall.ended, hresp] at hrunning
  · cases hresp
  · exact absurd hresp (c.afterEncode_phase_ne_response s' q)
  · exact absurd hresp (c.afterWrite_phase_ne_response n s q)
  · cases hresp
  · obtain ⟨hok, hvalid, hq⟩ := HostCall.afterReceive_response hresp
    obtain ⟨hcmd, hsrc, hdst⟩ := (c.validates_iff p s.rxRes).1 hvalid
    exact ⟨hdone, hok, hcmd, hsrc, hdst, hq, hs⟩

end Sys2Proof.Machine
end

section
/-! The operations that every state takes, and the steps that take an action of the environment (R144, R153, R155, R158,
R170). -/

namespace Sys2Proof.Machine

/-- RX_ARM answers in every state: its rejections are verdicts of the port (R112 to R114). -/
theorem exec_rxArm_exists_next (deadline : Ticks) (s : State) : ∃ t, exec (.rxArm deadline) s = .next t := by
  by_cases hd : deadline = 0
  · subst hd
    exact ⟨_, exec_rxArm_zero s⟩
  · by_cases hs : s.rxState = .off
    · exact ⟨_, exec_rxArm_of_off hd hs⟩
    · exact ⟨_, exec_rxArm_of_ne_off hd hs⟩

/-- TICK answers in every state of the Synchronizer (R123, R124). -/
theorem exec_tick_exists_next (s : State) : ∃ t, exec .tick s = .next t := by
  cases hs : s.rxState with
  | off => exact ⟨s, exec_tick_of_off hs⟩
  | idle => exact ⟨tickIdle s.countDeadline, by simp only [exec, execTick, hs]⟩
  | collecting => exact ⟨tickCollecting s.countQuiet.countDeadline, by simp only [exec, execTick, hs]⟩

/-- Settles O43: the only refusals are those of RX_BYTE and of a reserved event. -/
theorem everyMessageAccepted : Obligations.EveryMessageAccepted := by
  intro i s hi
  cases i with
  | nop => exact ⟨_, rfl⟩
  | encode ss dd cc p =>
    rcases Nat.lt_or_ge maxPayload p.length with hp | hp
    · exact ⟨_, exec_encode_of_lt hp ss dd cc s⟩
    · exact ⟨_, exec_encode_of_le hp ss dd cc s⟩
  | decode b => exact ⟨_, rfl⟩
  | rxArm T => exact exec_rxArm_exists_next T s
  | reset => exact ⟨_, rfl⟩
  | reservedCmd m => exact ⟨_, rfl⟩
  | rxByte b => rcases hi with hi | hi <;> cases hi
  | tick => exact exec_tick_exists_next s
  | reservedEvent tag data => rcases hi with hi | hi <;> cases hi

/-- Delivery priority does not come before an action of the environment (R116). -/
theorem priorityByte_of_env {s : State} {a : EnvAction} {rest : List Input} (h : s.inputs = .env a :: rest) :
    s.priorityByte = none := by
  simp [State.priorityByte, h, yieldsToTransport]

/-- An action of the environment presented first is done, and leaves what is presented (logs 1 and 4). -/
theorem step_of_env {s : State} {a : EnvAction} {rest : List Input} (hq : s.cfg.qTicks ≠ 0)
    (h : s.inputs = .env a :: rest) : step s = .next (applyEnv a (s.setInputs rest)) := by
  have hnext : nextOp s = .environment a (s.setInputs rest) := by
    rw [nextOp_of_priorityByte_none (priorityByte_of_env h)]
    simp [presentedOp, h]
  simp [step, (legal_iff s.cfg).2 hq, hnext]

/-- No action of the environment touches what is presented after it. -/
@[simp] theorem applyEnv_inputs (a : EnvAction) (s : State) : (applyEnv a s).inputs = s.inputs := by cases a <;> rfl

/-- Settles O54: the step is the action, and a power-on leaves the reset state. -/
theorem environmentActions : Obligations.EnvironmentActions := by
  intro s rest a hq hin
  refine ⟨_, step_of_env hq hin, applyEnv_inputs a _, applyEnv_cfg a _, ?_, ?_, ?_⟩
  · rintro bytes rfl
    rfl
  · rintro rfl
    rfl
  · rintro rfl
    exact ⟨powerOn_atReset s.cfg s.transport rest, rfl⟩

end Sys2Proof.Machine
end

section
/-! A reset leaves nothing of what happened before it (R173). -/

namespace Sys2Proof.Machine

/-- A reset writes every field but those of the surroundings, which it keeps (R41, R172). -/
theorem SameSurroundings.resetFields_eq {s t : State} (h : SameSurroundings s t) : resetFields s = resetFields t := by
  simp only [resetFields, h.cfg, h.transport, h.inputs]

/-- RESET is accepted in every state (R169). -/
theorem exec_reset (s : State) : exec .reset s = .next ((resetFields s).setCmdStatus .ok) := rfl

/-- Settles O2: both kinds of reset leave one and the same state, from which both runs go on. -/
theorem resetForgetsThePast : Obligations.ResetForgetsThePast := by
  intro ops s t h
  have hreset : resetFields s = resetFields t := h.resetFields_eq
  constructor
  · rw [execAll_cons_of_exec (exec_reset s), execAll_cons_of_exec (exec_reset t), hreset]
  · exact congrArg (execAll ops) hreset

end Sys2Proof.Machine
end

section
/-! A deadline shorter than the quiet interval always comes first (R130, R181). -/

namespace Sys2Proof.Machine

/-- What each operation of a run keeps, the run keeps. -/
theorem execAll_keeps {P : State → Prop} {ops : List Instr} {s t : State}
    (hkeep : ∀ i ∈ ops, ∀ s t, P s → exec i s = .next t → P t) (hs : P s) (h : execAll ops s = .next t) : P t := by
  induction ops generalizing s with
  | nil => cases h; exact hs
  | cons i ops ih =>
    obtain ⟨u, hi, hrest⟩ := execAll_cons_next h
    have hu : P u := hkeep i List.mem_cons_self s u hs hi
    exact ih (fun j hj => hkeep j (List.mem_cons_of_mem i hj)) hu hrest

/-- A receive whose deadline comes before the end of any quiet period, and its end: once a byte is taken, Timeout. -/
structure State.DeadlineFirst (s : State) : Prop where
  policy     : s.cfg.policy = .fail
  ended      : s.rxState = .off → s.rxCnt ≠ 0 → s.rxRes = .blank .timeout
  idle       : s.rxState = .idle → s.rxCnt = 0
  running    : s.rxState ≠ .off → s.orem ≠ 0
  short      : s.rxState ≠ .off → s.orem.toNat < s.cfg.qTicks.toNat
  collecting : s.rxState = .collecting → s.orem.toNat < s.qrem.toNat

/-- An accepted RX_ARM with a deadline below Q_TICKS starts such a receive (R112). -/
theorem startReceive_deadlineFirst {s : State} {deadline : Ticks} (hd : deadline ≠ 0)
    (hshort : deadline.toNat < s.cfg.qTicks.toNat) (hfail : s.cfg.policy = .fail) :
    (s.startReceive deadline).DeadlineFirst where
  policy := hfail
  ended := nofun
  idle _ := rfl
  running _ := hd
  short _ := hshort
  collecting := nofun

namespace State.DeadlineFirst

variable {s t : State}

/-- Of a receive that has ended only its result is asked. -/
theorem of_off (hfail : s.cfg.policy = .fail) (hoff : s.rxState = .off)
    (hended : s.rxCnt ≠ 0 → s.rxRes = .blank .timeout) : s.DeadlineFirst where
  policy := hfail
  ended _ := hended
  idle hidle := by simp [hoff] at hidle
  running hon := absurd hoff hon
  short hon := absurd hoff hon
  collecting hcollecting := by simp [hoff] at hcollecting

/-- A byte restarts the quiet period, which is still longer than what is left of the deadline (R120). -/
theorem exec_rxByte (h : s.DeadlineFirst) {b : Byte} (ht : exec (.rxByte b) s = .next t) : t.DeadlineFirst := by
  obtain ⟨hqrem, horem, -, -, hcollecting⟩ := exec_rxByte_next ht
  have hcfg : t.cfg = s.cfg := (exec_keeps_cfg_inputs ht).1
  have hon : s.rxState ≠ .off := fun hoff => by simp [exec_rxByte_of_off hoff] at ht
  have hshort : t.orem.toNat < s.cfg.qTicks.toNat := horem ▸ h.short hon
  exact
    { policy := hcfg ▸ h.policy
      ended := fun hoff => by simp [hcollecting] at hoff
      idle := fun hidle => by simp [hcollecting] at hidle
      running := fun _ => horem ▸ h.running hon
      short := fun _ => hcfg ▸ hshort
      collecting := fun _ => hqrem ▸ hshort }

/-- A TICK counts both timers down, so the deadline stays ahead, and at its last tick the quiet period goes on (R125,
R126, R130). -/
theorem exec_tick (h : s.DeadlineFirst) (ht : exec .tick s = .next t) : t.DeadlineFirst := by
  rcases execTick_next ht with ⟨-, rfl⟩ | ⟨hs, ho, rfl⟩ | ⟨hs, -, rfl⟩ | ⟨hs, hq, ho, rfl⟩ | ⟨hs, hend, rfl⟩ |
    ⟨-, -, -, -, rfl⟩
  · exact h
  · have hon : s.rxState ≠ .off := by simp [hs]
    have hpred := toNat_sub_one_add_one (h.running hon)
    have hshort := h.short hon
    exact
      { policy := h.policy
        ended := fun hoff => absurd hoff hon
        idle := h.idle
        running := fun _ => ho
        short := fun _ => show (s.orem - 1).toNat < s.cfg.qTicks.toNat by omega
        collecting := fun hcollecting => by simp [hs] at hcollecting }
  · have hnone : s.rxCnt = 0 := h.idle hs
    exact .of_off h.policy rfl fun hcnt => absurd hnone hcnt
  · have hon : s.rxState ≠ .off := by simp [hs]
    have hpred := toNat_sub_one_add_one (h.running hon)
    have hshort := h.short hon
    have hfirst := h.collecting hs
    have hquiet := toNat_sub_one_add_one (v := s.qrem) (by bv_omega)
    exact
      { policy := h.policy
        ended := fun hoff => absurd hoff hon
        idle := h.idle
        running := fun _ => ho
        short := fun _ => show (s.orem - 1).toNat < s.cfg.qTicks.toNat by omega
        collecting := fun _ => show (s.orem - 1).toNat < (s.qrem - 1).toNat by omega }
  · have hfirst := h.collecting hs
    have hrunning : s.orem ≠ 0 := h.running (by simp [hs])
    rcases hend with hlast | ⟨-, hpolicy⟩
    · exact absurd hlast (by bv_omega)
    · simp [h.policy] at hpolicy
  · exact .of_off h.policy rfl fun _ => rfl

/-- The events of a receive keep its deadline first (R111). -/
theorem exec_event (h : s.DeadlineFirst) {e : Instr} (he : isReceiveEvent e = true) (ht : exec e s = .next t) :
    t.DeadlineFirst := by
  cases e with
  | rxByte b => exact h.exec_rxByte ht
  | tick => exact h.exec_tick ht
  | nop | encode | decode | rxArm | reset | reservedCmd | reservedEvent => cases he

end State.DeadlineFirst

/-- Settles O36: RX_ARM puts the deadline before any quiet period, and the events keep it there. -/
theorem shortDeadlineTimesOut : Obligations.ShortDeadlineTimesOut := by
  intro T ops s t hoff hT hshort hfail hops h hend hcnt
  rw [execAll_cons_of_exec (exec_rxArm_of_off hT hoff)] at h
  have harmed : ((s.setCmdStatus .ok).startReceive T).DeadlineFirst := startReceive_deadlineFirst hT hshort hfail
  have ht : t.DeadlineFirst := execAll_keeps (fun i hi _ _ hs hexec => hs.exec_event (hops i hi) hexec) harmed h
  exact ht.ended hend hcnt

end Sys2Proof.Machine
end

section
/-! The operations of the codec and the events of a receive work on separate fields (R87, R108, R184). -/

namespace Sys2Proof.Machine

/-- `s` with the fields that the messages of the codec write taken from `c`: CMD_STATUS, those of the Serializer, and
DEC_RES (R40). -/
def State.withCodecOf (s c : State) : State :=
  { s with cmdStatus := c.cmdStatus, txBuf := c.txBuf, txLen := c.txLen, encStatus := c.encStatus, decRes := c.decRes }

@[simp] theorem State.withCodecOf_self (s : State) : s.withCodecOf s = s := rfl
@[simp] theorem State.withCodecOf_rxState (s c : State) : (s.withCodecOf c).rxState = s.rxState := rfl
@[simp] theorem State.withCodecOf_transport (s c : State) : (s.withCodecOf c).transport = s.transport := rfl

/-- The outcome with `f` applied to its next state; a fault and a refusal stay. -/
def mapNext (f : State → State) : Host.Outcome State Fault Refusal → Host.Outcome State Fault Refusal
  | .next s => .next (f s)
  | .fault r => .fault r
  | .refused r => .refused r

theorem mapNext_eq_next_iff {f : State → State} {o : Host.Outcome State Fault Refusal} {u : State} :
    mapNext f o = .next u ↔ ∃ v, o = .next v ∧ f v = u := by
  cases o <;> simp [mapNext]

/-- Taking a byte reads the transport alone (R115). -/
theorem takeOldest_withCodecOf (s c : State) (b : Byte) :
    (s.withCodecOf c).takeOldest b = (s.takeOldest b).map (·.withCodecOf c) := by
  simp only [State.takeOldest, State.withCodecOf_transport]
  cases s.transport with
  | nil => rfl
  | cons oldest rest =>
    by_cases hb : oldest = b
    · simp only [if_pos hb]; rfl
    · simp only [if_neg hb]; rfl

/-- Where a further byte goes does not depend on the codec's fields (R118, R119). -/
theorem collectNext_withCodecOf (b : Byte) (s c : State) :
    collectNext b (s.withCodecOf c) = (collectNext b s).withCodecOf c := by
  rcases Nat.lt_or_ge s.rxCnt.toNat 258 with hcnt | hcnt
  · rw [collectNext_of_lt hcnt, collectNext_of_lt (s := s.withCodecOf c) hcnt]; rfl
  · rw [collectNext_of_le hcnt, collectNext_of_le (s := s.withCodecOf c) hcnt]; rfl

/-- RX_BYTE neither reads nor writes the codec's fields (R115 to R122). -/
theorem exec_rxByte_withCodecOf (b : Byte) (s c : State) :
    exec (.rxByte b) (s.withCodecOf c) = mapNext (·.withCodecOf c) (exec (.rxByte b) s) := by
  simp only [exec, execRxByte, State.withCodecOf_rxState, takeOldest_withCodecOf]
  cases s.rxState with
  | off => rfl
  | idle => cases s.takeOldest b <;> rfl
  | collecting =>
    cases s.takeOldest b with
    | none => rfl
    | some s1 => exact congrArg Host.Outcome.next (collectNext_withCodecOf b s1 c)

/-- What the policy makes of a deadline does not depend on the codec's fields (R130). -/
theorem deadlineWhileCollecting_withCodecOf (s c : State) :
    deadlineWhileCollecting (s.withCodecOf c) = (deadlineWhileCollecting s).withCodecOf c := by
  cases hp : s.cfg.policy with
  | fail => rw [deadlineWhileCollecting_of_fail hp, deadlineWhileCollecting_of_fail (s := s.withCodecOf c) hp]; rfl
  | finalize =>
    rw [deadlineWhileCollecting_of_finalize hp, deadlineWhileCollecting_of_finalize (s := s.withCodecOf c) hp]; rfl

/-- TICK neither reads nor writes the codec's fields (R123 to R131). -/
theorem exec_tick_withCodecOf (s c : State) :
    exec .tick (s.withCodecOf c) = mapNext (·.withCodecOf c) (exec .tick s) := by
  cases hs : s.rxState with
  | off => rw [exec_tick_of_off hs, exec_tick_of_off (s := s.withCodecOf c) hs]; rfl
  | idle =>
    by_cases ho : s.orem = 1
    · rw [exec_tick_of_idle_last hs ho, exec_tick_of_idle_last (s := s.withCodecOf c) hs ho]; rfl
    · rw [exec_tick_of_idle hs ho, exec_tick_of_idle (s := s.withCodecOf c) hs ho]; rfl
  | collecting =>
    by_cases hq : s.qrem = 1
    · rw [exec_tick_of_quiet_last hs hq, exec_tick_of_quiet_last (s := s.withCodecOf c) hs hq]; rfl
    · by_cases ho : s.orem = 1
      · rw [exec_tick_of_deadline_last hs hq ho, exec_tick_of_deadline_last (s := s.withCodecOf c) hs hq ho]
        exact congrArg Host.Outcome.next (deadlineWhileCollecting_withCodecOf s.countQuiet.countDeadline c)
      · rw [exec_tick_of_collecting hs hq ho, exec_tick_of_collecting (s := s.withCodecOf c) hs hq ho]; rfl

/-- The events of a receive neither read nor write the codec's fields (R40). -/
theorem exec_event_withCodecOf {e : Instr} (he : isReceiveEvent e = true) (s c : State) :
    exec e (s.withCodecOf c) = mapNext (·.withCodecOf c) (exec e s) := by
  cases e with
  | rxByte b => exact exec_rxByte_withCodecOf b s c
  | tick => exact exec_tick_withCodecOf s c
  | nop | encode | decode | rxArm | reset | reservedCmd | reservedEvent => cases he

/-- An event of a receive leaves the codec's fields as they are (R40). -/
theorem withCodecOf_of_exec_event {e : Instr} {s v : State} (he : isReceiveEvent e = true) (h : exec e s = .next v) :
    v.withCodecOf s = v := by
  have hsame := exec_event_withCodecOf he s s
  rw [State.withCodecOf_self, h] at hsame
  exact Host.Outcome.next.inj hsame.symm

/-- What ENCODE or DECODE does to the codec's fields depends on these fields alone, and it writes no other (R87,
R108). -/
theorem exec_codec_withCodecOf {i : Instr} {s t : State}
    (hi : (∃ ss dd cc p, i = .encode ss dd cc p) ∨ ∃ b, i = .decode b) (h : exec i s = .next t) (v : State) :
    exec i (v.withCodecOf s) = .next (v.withCodecOf t) := by
  rcases hi with ⟨ss, dd, cc, p, rfl⟩ | ⟨b, rfl⟩
  · rcases Nat.lt_or_ge maxPayload p.length with hp | hp
    · rw [exec_encode_of_lt hp] at h ⊢
      cases h; rfl
    · rw [exec_encode_of_le hp] at h ⊢
      cases h; rfl
  · rw [exec_decode] at h ⊢
    cases h; rfl

/-- Settles O46: the codec operation leaves `s` with the codec's fields of `t`, from which the event runs as it does
from `s`; and the event leaves the codec's fields that the operation reads. -/
theorem codecCommutesWithReceive : Obligations.CodecCommutesWithReceive := by
  intro i e s t u hi he hit heu
  have ht : s.withCodecOf t = t := by
    have hself := exec_codec_withCodecOf hi hit s
    rw [State.withCodecOf_self, hit] at hself
    exact (Host.Outcome.next.inj hself).symm
  rw [← ht, exec_event_withCodecOf he] at heu
  obtain ⟨v, hv, rfl⟩ := mapNext_eq_next_iff.1 heu
  have hlast := exec_codec_withCodecOf hi hit v
  rw [withCodecOf_of_exec_event he hv] at hlast
  exact ⟨v, hv, hlast⟩

end Sys2Proof.Machine
end
